-- ==== Sys2Proof/Word.lean ====
section
/-! DEFINITION. The plain types the hub is built from: bytes, 16-bit words, 32-bit counts, and the
numbers of tile ports, tags and sync groups (00_scope.md, Conventions). -/

namespace Sys2Proof

/-- One byte of a packet, a token code or a management payload. -/
abbrev Byte := BitVec 8

/-- A 16-bit word as it travels: a payload check or a tile error word (R11, R183). -/
abbrev Half := BitVec 16

/-- A count of a counter block: a 32-bit number (R175). -/
abbrev Count := BitVec 32

/-- A tile port, 0..3. -/
abbrev PortId := Fin 4

/-- A sync group, 0..3. -/
abbrev GroupId := Fin 4

/-- A tag, 0..15. -/
abbrev Tag := Fin 16

/-- A set of tile ports, as the spec's port sets number it: bit p stands for port p (R184, R185). -/
abbrev PortSet := BitVec 4

end Sys2Proof
end

