-- ==== Sys2Proof/Syntax.lean ====
section
/-! DEFINITION. The commands of the hub: one constructor for each row of spec/opcode_table.json.
A command is one whole step of the part (95_what_each_step_holds.md). It is something the host or a
tile does on a link, something a link or a timer of the hub finishes, or the execution of one
management command. Data symbols that complete neither a header nor a packet have no row of their
own; the row that ends them carries them as its operand `cut` (DESIGN
CHOICE, assumption log 3). -/

namespace Sys2Proof

/-- A packet as a tile sent it: the ten header bytes, the payload and the payload check. A packet
without payload leaves `payload` empty, and its `check` is not looked at. -/
structure TilePacket where
  header  : List Byte
  payload : List Byte
  check   : Half
  deriving DecidableEq, Repr

/-- The commands, in the order of the table. -/
inductive Instr where
  /-- RESET: RSTn asserted or power-on, up to its release (R187). -/
  | reset
  /-- UPSTREAM_BURST_OPEN: a burst open from the host. `cut` holds the data symbols that arrived
  since the last header or packet was complete, when a burst was still open (R15). -/
  | upstreamBurstOpen (cut : List Byte)
  /-- HEADER_ARRIVAL: the tenth byte of a header has arrived; `header` holds the ten (R16). -/
  | headerArrival (header : List Byte)
  /-- PACKET_ARRIVAL: the last check byte of a packet with a payload has arrived (R17, R18). -/
  | packetArrival (payload : List Byte) (check : Half)
  /-- UPSTREAM_BURST_CLOSE: a burst close from the host; `cut` as for the burst open (R19). -/
  | upstreamBurstClose (cut : List Byte)
  /-- STRAY_DATA_SYMBOL: a data symbol outside any burst (R20). -/
  | strayDataSymbol (symbol : Byte)
  /-- HOST_PASS: the PASS token from the host (R21). -/
  | hostPass
  /-- HUB_CLEAR: the CLEAR token from the host (R21). -/
  | hubClear
  /-- UPSTREAM_TOKEN_ERROR: a token symbol from the host that is a token error (R5, R6, R21). -/
  | upstreamTokenError (code : Byte)
  /-- UPSTREAM_COLLISION: the host drives while the hub holds the upstream link (R8). -/
  | upstreamCollision
  /-- ROOM_SENT: the last byte of the ROOM has left the hub (R138, R140). -/
  | roomSent
  /-- ENTRY_SENT: the last byte of a return queue entry has left the hub (R141). -/
  | entrySent
  /-- RETURN_TURN_PASS_SENT: the PASS that ends a return turn has been sent (R22). -/
  | returnTurnPassSent
  /-- PIECE_SENT: the last byte of a piece has left the hub (R87, R88). -/
  | pieceSent (p : PortId)
  /-- EXCHANGE_OPEN: the PASS after an answer-required piece has been sent in full (R90). -/
  | exchangeOpen (p : PortId)
  /-- WATCH_OPEN: the PASS for a watch has been sent in full (R90, R109). -/
  | watchOpen (p : PortId)
  /-- REPLY_ARRIVAL: a REPLY from the tile has arrived (R91). -/
  | replyArrival (p : PortId) (packet : TilePacket)
  /-- FAULT_ARRIVAL: a FAULT from the tile has arrived (R92). -/
  | faultArrival (p : PortId) (packet : TilePacket)
  /-- ACK_TOKEN: the ACK token from the tile (R93). -/
  | ackToken (p : PortId)
  /-- SYNC_TOKEN: the SYNC token from the tile (R93, R152). -/
  | syncToken (p : PortId)
  /-- TILE_PASS: the PASS token from the tile (R95). -/
  | tilePass (p : PortId)
  /-- TILE_BAD_PACKET: a bad header, a failed payload check or an unfit REPLY or FAULT length
  (R24, R94). -/
  | tileBadPacket (p : PortId) (packet : TilePacket)
  /-- TILE_STRAY_PACKET: a good packet of a kind a tile may not send (R24). -/
  | tileStrayPacket (p : PortId) (packet : TilePacket)
  /-- TILE_TOKEN_ERROR: a token symbol from the tile that is a token error (R5, R6). -/
  | tileTokenError (p : PortId) (code : Byte)
  /-- TILE_BURST_OPEN: a burst open from the tile; `cut` as for the upstream link (R24). -/
  | tileBurstOpen (p : PortId) (cut : List Byte)
  /-- TILE_BURST_CLOSE: a burst close from the tile; `cut` as for the upstream link (R24). -/
  | tileBurstClose (p : PortId) (cut : List Byte)
  /-- TILE_STRAY_DATA: a data symbol from the tile outside any burst (R24). -/
  | tileStrayData (p : PortId) (symbol : Byte)
  /-- TILE_COLLISION: the tile drives while the hub holds the tile link (R9, R98). -/
  | tileCollision (p : PortId)
  /-- ANSWER_TIMER_EXPIRY: the answer timer has run its full timeout (R96). -/
  | answerTimerExpiry (p : PortId)
  /-- SEIZE_COMPLETE: the seize interval has expired (R10). -/
  | seizeComplete (p : PortId)
  /-- CLEAR_SENT: the port's CLEAR has been sent in full (R102). -/
  | clearSent (p : PortId)
  /-- DEADLINE_EXPIRY: the deadline of a tag's record has expired (R121). -/
  | deadlineExpiry (t : Tag)
  /-- SYNC_WINDOW_EXPIRY: the window timer of a group has expired (R154). -/
  | syncWindowExpiry (g : GroupId)
  /-- INFO: the agent executes the INFO at the head of its queue (R167). The eighteen rows below
  are executions in the same way: their operands stand in the command that waits there. -/
  | info
  /-- STAGE_ENTRY (R30). -/
  | stageEntry
  /-- STAGE_OFF (R31). -/
  | stageOff
  /-- STAGE_COPY (R32). -/
  | stageCopy
  /-- READ_ENTRY (R33). -/
  | readEntry
  /-- COMMIT_NOW: COMMIT with form NOW (R37). -/
  | commitNow
  /-- COMMIT_AT_FRAME: COMMIT with form AT-FRAME (R39). -/
  | commitAtFrame
  /-- COMMIT_CANCEL (R44). -/
  | commitCancel
  /-- PORT_SET (R108). -/
  | portSet
  /-- PORT_STOP (R105). -/
  | portStop
  /-- PORT_RESTART (R106, R107). -/
  | portRestart
  /-- PORT_READ (R169). -/
  | portRead
  /-- SYNC_SET (R157). -/
  | syncSet
  /-- SYNC_READ (R158). -/
  | syncRead
  /-- RETURN_SET (R173). -/
  | returnSet
  /-- TAG_READ (R174). -/
  | tagRead
  /-- COUNTERS_READ (R176). -/
  | countersRead
  /-- COUNTERS_CLEAR (R177). -/
  | countersClear
  /-- UNKNOWN_COMMAND: a command whose code names no command (R165). -/
  | unknownCommand
  deriving DecidableEq, Repr

end Sys2Proof
end

