-- ==== Sys2Proof/Decode.lean ====
section
/-! DEFINITION. The command a table word spells. The opcode table gives no row of this block any
bits (its "fields" are empty and no row has "fixed"), so no word spells a command. How the bytes
of packets and management commands are read stands in Machine/Wire.lean and Machine/Operands.lean. -/

namespace Sys2Proof

/-- No row of the table gives bits: every word is refused (DESIGN CHOICE, assumption log 2). -/
def decodeTableWord (_nbits _w : Nat) : Option Instr := none

end Sys2Proof
end

