-- ==== Sys2Proof/Config.lean ====
section
/-! DEFINITION. What the part fixes: the capacities and intervals that the spec gives as plain
figures. The spec leaves no value of the hub open, so no free value stands here. -/

namespace Sys2Proof.Config

/-- R83: an egress queue holds at most this many pieces. -/
abbrev pieceCapacity : Nat := 64

/-- R83: an egress queue holds at most this many payload bytes. -/
abbrev byteCapacity : Nat := 8192

/-- R133: the slots of the shared part of the return queue. -/
abbrev sharedSlots : Nat := 16

/-- R161: the commands that may wait in the management agent's queue. -/
abbrev commandQueueCapacity : Nat := 4

/-- R11, R182: the largest Length a good header may hold. -/
abbrev maxLength : Nat := 4096

/-- R51: the largest payload of a MGMT packet. -/
abbrev maxMgmtLength : Nat := 64

/-- R52: the largest payload of a READ. -/
abbrev maxReadLength : Nat := 16

/-- R10: the seize interval, in microseconds. -/
abbrev seizeInterval : Nat := 20

/-- R89: the failure count stays here once it has reached it. -/
abbrev maxFailureCount : Nat := 7

/-- R182: the bytes of a packet header, its check included. -/
abbrev headerBytes : Nat := 10

/-- The stream that carries management packets; it has no entry in the stream table (R25). -/
abbrev managementStream : Nat := 31

/-- Microseconds in a millisecond: deadlines are set in ms and kept in µs. -/
abbrev microsPerMilli : Nat := 1000

end Sys2Proof.Config
end

