-- ==== Sys2Proof/Machine/State.lean ====
section
/-! DEFINITION. Everything the spec gives the hub to hold, as plain data, and the value of each
piece after a reset. Beside it stands the model's own queue of commands that wait. -/

namespace Sys2Proof.Machine

/-! ### The upstream port (Chapter 1) -/

/-- The upstream port's link direction (R1). -/
inductive Direction where
  | follower | holder
  deriving DecidableEq, Repr

/-- The receive state of a link receiver (section 1.6; R24 for tile links). -/
inductive RxState where
  | resting | inBurst | desync
  deriving DecidableEq, Repr

/-- The fields of a good packet header (section 1.5, R182). -/
structure Header where
  kind       : Byte
  stream     : Nat
  ackRequest : Bool
  tag        : Tag
  line       : Nat
  column     : Nat
  length     : Nat
  deriving DecidableEq, Repr

/-- What the hub is sending in a return turn: the ROOM, the entry at the head of the return queue,
or the burst close and the PASS (R22, R140). -/
inductive TurnPhase where
  | room | entry | closing
  deriving DecidableEq, Repr

/-- A return turn in progress: the budget read at its start, the entries sent in full so far, and
the bytes of the packet on the wire (R139, R140). -/
structure Turn where
  budget : Nat
  sent   : Nat
  phase  : TurnPhase
  wire   : List Byte
  deriving DecidableEq, Repr

/-- The UPSTREAM counter block (R175). -/
structure UpstreamCounts where
  headerErrors     : Count
  payloadErrors    : Count
  kindErrors       : Count
  desyncBursts     : Count
  truncatedPackets : Count
  tokenErrors      : Count
  collisions       : Count
  hubClears        : Count
  deriving DecidableEq, Repr

/-- The upstream port (section 1.6). `inProgress` is the good header whose payload is still
arriving. -/
structure Upstream where
  direction  : Direction
  rx         : RxState
  inProgress : Option Header
  turn       : Option Turn
  counts     : UpstreamCounts
  deriving DecidableEq, Repr

/-! ### The stream table (Chapter 2) -/

/-- The window of one port on a pixel stream (R27). -/
structure Window where
  firstColumn : Nat
  width       : Nat
  firstLine   : Nat
  height      : Nat
  deriving DecidableEq, Repr

/-- A lead opcode and the continuation opcode of its later pieces (R28). -/
structure SplitPair where
  lead         : Byte
  continuation : Byte
  deriving DecidableEq, Repr

/-- The fields of an ON entry that belong to its class (R27, R28). -/
inductive EntryClass where
  | pixel (pixelSize : Nat) (windows : Vector (Option Window) 4)
  | command (pieceSize returnLimit : Nat) (pairs : List SplitPair)
  deriving DecidableEq, Repr

/-- A stream entry: OFF holds nothing else; ON holds the common fields and those of its class
(R26). -/
inductive StreamEntry where
  | off
  | on (members : PortSet) (outStream : Nat) (fields : EntryClass)
  deriving DecidableEq, Repr

/-- One bank: an entry for each stream id 0..30 (R25). -/
abbrev Bank := Vector StreamEntry 31

/-- The commit state (R36). -/
inductive CommitState where
  | none | pendingFrame
  deriving DecidableEq, Repr

/-- The stream table (R25, R36). -/
structure StreamTable where
  active : Bank
  staged : Bank
  commit : CommitState
  deriving DecidableEq, Repr

/-! ### The tile ports (Chapter 5) -/

/-- The kinds of piece (R70). -/
inductive PieceKind where
  | frameStart | line | write | read | limit
  deriving DecidableEq, Repr

/-- The rebased line and column of a slice (R71). -/
structure Position where
  line   : Nat
  column : Nat
  deriving DecidableEq, Repr

/-- The place of a piece in its WRITE, and the number of pieces of that WRITE (R70). -/
structure PieceIndex where
  index : Nat
  count : Nat
  deriving DecidableEq, Repr

/-- A piece record (R70). A field that a kind does not hold is `none`. -/
structure Piece where
  kind           : PieceKind
  outStream      : Nat
  tag            : Tag
  ackRequest     : Bool
  position       : Option Position
  payload        : List Byte
  answerRequired : Bool
  returnLimit    : Option Nat
  place          : Option PieceIndex
  link           : Option Tag
  deriving DecidableEq, Repr

/-- What an exchange is for; a READ carries the Return limit of its piece (section 5.4). -/
inductive Answers where
  | read (returnLimit : Nat) | write | watch
  deriving DecidableEq, Repr

/-- The pending answer (R88): what the piece just sent asks for, until the PASS has been sent. -/
structure PendingAnswer where
  tag     : Tag
  answers : Answers
  link    : Option Tag
  deriving DecidableEq, Repr

/-- The open exchange (section 5.4). -/
structure Exchange where
  tag       : Tag
  answers   : Answers
  reply     : Option (List Byte)
  errorWord : Option Half
  ackSeen   : Bool
  badCheck  : Bool
  oversize  : Bool
  orphan    : Bool
  deriving DecidableEq, Repr

/-- Why a port left service (R81). -/
inductive Cause where
  | failed | stopped
  deriving DecidableEq, Repr

/-- Where a clearing port goes (R81). -/
inductive Destination where
  | ready | down (cause : Cause)
  deriving DecidableEq, Repr

/-- The six states (R82). The destination is present in CLEARING only and the cause in DOWN only. -/
inductive PortPhase where
  | clearing (dest : Destination) | ready | sending | waiting | watching | down (cause : Cause)
  deriving DecidableEq, Repr

/-- The end that holds a tile link (R81). -/
inductive Holder where
  | hub | tile
  deriving DecidableEq, Repr

/-- The notice a port owes the management agent (R81). -/
inductive Owed where
  | none | stop | restart
  deriving DecidableEq, Repr

/-- What the port itself is sending: nothing but the rest pattern, the piece at the head of its
queue with the bytes on the wire, the PASS after an answer-required piece, the PASS for a watch, or
the CLEAR (R83, R88, R101, R109). -/
inductive PortTx where
  | idle | piece (wire : List Byte) | passAnswer | passWatch | clear
  deriving DecidableEq, Repr

/-- The PORT counter block (R111). -/
structure PortCounts where
  piecesSent     : Count
  bursts         : Count
  exchanges      : Count
  answerTimeouts : Count
  collisions     : Count
  failures       : Count
  strayAnswers   : Count
  badChecks      : Count
  flushedPieces  : Count
  deriving DecidableEq, Repr

/-- A tile port (R81). Timers hold their remaining microseconds while they run. `tx` is what R83, R88,
R101 and R109 say the port is sending (DESIGN CHOICE, assumption log 15). -/
structure Port where
  phase         : PortPhase
  holder        : Holder
  seize         : Option Nat
  rx            : RxState
  tx            : PortTx
  queue         : List Piece
  pendingAnswer : Option PendingAnswer
  exchange      : Option Exchange
  answerTimer   : Option Nat
  limit         : Option Nat
  failures      : Nat
  answerTimeout : Nat
  failureLimit  : Nat
  owed          : Owed
  counts        : PortCounts
  deriving DecidableEq, Repr

/-! ### The transaction table (Chapter 6) -/

/-- The kind of a tagged request (R112). -/
inductive RequestKind where
  | read | write
  deriving DecidableEq, Repr

/-- The outcomes of a port record (R112). -/
inductive PartOutcome where
  | ack | data | fault | noAnswer | oversize | badCheck | flushed | expired | down
  deriving DecidableEq, Repr

/-- The state of a port record; the outcome is present when RESOLVED only (R112). -/
inductive PartState where
  | queued | awaiting | resolved (outcome : PartOutcome)
  deriving DecidableEq, Repr

/-- A port record of a transaction (R112). -/
structure PortRecord where
  port      : PortId
  state     : PartState
  isPartial : Bool
  errorWord : Option Half
  deriving DecidableEq, Repr

/-- OPEN or DONE (R112). -/
inductive RecordState where
  | opened | done
  deriving DecidableEq, Repr

/-- A held transaction record; its tag is its place in the table. The deadline holds the remaining
microseconds while it runs (R112, R120). -/
structure Transaction where
  kind     : RequestKind
  stream   : Nat
  state    : RecordState
  deadline : Option Nat
  parts    : List PortRecord
  data     : Option (List Byte)
  deriving DecidableEq, Repr

/-- The 16 records, free or held, and the transaction deadline in ms, 0 for none (R112, R120). -/
structure TransactionTable where
  records    : Vector (Option Transaction) 16
  deadlineMs : Nat
  deriving DecidableEq, Repr

/-! ### The return queue (Chapter 7) -/

/-- The kinds of entry (R133). -/
inductive EntryKind where
  | reply | report | mgmtReply | event
  deriving DecidableEq, Repr

/-- The slot an entry occupies: a shared one, or one of the two reserved for a tag (R133). -/
inductive Slot where
  | shared | replyOf (t : Tag) | reportOf (t : Tag)
  deriving DecidableEq, Repr

/-- An entry of the return queue (R133). -/
structure Entry where
  kind    : EntryKind
  tag     : Tag
  stream  : Nat
  payload : List Byte
  slot    : Slot
  deriving DecidableEq, Repr

/-- The lost flag with its carried mark (R138). -/
inductive LostFlag where
  | clear | set | carried
  deriving DecidableEq, Repr

/-- The attention mask; an item that is enabled is true (section 7.7). -/
structure AttentionMask where
  completion : Bool
  mgmtReply  : Bool
  event      : Bool
  lost       : Bool
  deriving DecidableEq, Repr

/-- The RETURN counter block (R136). -/
structure ReturnCounts where
  reportsLost   : Count
  eventsLost    : Count
  mgmtDiscarded : Count
  deriving DecidableEq, Repr

/-- The return queue: its entries oldest first, the number of shared slots reserved for replies of
accepted commands, and the attention output, true while ATTNn is asserted (R133, R145). -/
structure ReturnQueue where
  entries   : List Entry
  reserved  : Nat
  lost      : LostFlag
  mask      : AttentionMask
  budget    : Nat
  counts    : ReturnCounts
  attention : Bool
  deriving DecidableEq, Repr

/-! ### Sync groups (Chapter 8) -/

/-- The mode of a sync group (R148); `repeating` is REPEAT. -/
inductive GroupMode where
  | off | once | repeating
  deriving DecidableEq, Repr

/-- A sync group and its three counts (R148, R160). The timer holds the remaining microseconds
while it runs. -/
structure SyncGroup where
  members     : PortSet
  mode        : GroupMode
  window      : Nat
  reported    : PortSet
  timer       : Option Nat
  roundNumber : Nat
  rounds      : Count
  splits      : Count
  earlySyncs  : Count
  deriving DecidableEq, Repr

/-- The four groups and the count they share (R160). -/
structure SyncBlock where
  groups         : Vector SyncGroup 4
  unwatchedSyncs : Count
  deriving DecidableEq, Repr

/-! ### The management agent (Chapter 9) -/

/-- A command that waits, exactly as its MGMT packet carried it (R161). -/
structure MgmtCommand where
  tag     : Tag
  payload : List Byte
  deriving DecidableEq, Repr

/-- The management agent (R161). The command in execution is a deferred one. -/
structure Agent where
  queue       : List MgmtCommand
  inExecution : Option MgmtCommand
  deriving DecidableEq, Repr

/-! ### Ingress (Chapter 3) -/

/-- The refusal reasons, in the order of the REFUSALS block (R64). -/
inductive RefusalReason where
  | streamOff | classMismatch | malformed | tooLong | tagBusy | multiRead | noPort | noRoom
  | payloadCheck
  deriving DecidableEq, Repr

/-- A STREAM counter block (R64). -/
structure StreamCounts where
  admitted      : Count
  refused       : Count
  unmappedLines : Count
  deriving DecidableEq, Repr

/-- The counts ingress keeps beside its kind-errors count (R64). -/
structure IngressCounts where
  streams  : Vector StreamCounts 31
  refusals : Vector Count 9
  deriving DecidableEq, Repr

/-! ### The hub -/

/-- The state of the hub, block by block (00_scope.md), and the model's queue of the commands that
wait, oldest first. -/
structure State where
  upstream : Upstream
  table    : StreamTable
  ports    : Vector Port 4
  txns     : TransactionTable
  ret      : ReturnQueue
  sync     : SyncBlock
  agent    : Agent
  ingress  : IngressCounts
  pending  : List Instr
  deriving DecidableEq, Repr

/-- No rule of the spec makes the hub stop with a fault: the type has no constructor, so no meaning
can end in one. What the spec calls a failure of a port is an effect on the state (R99). -/
inductive Fault where
  deriving DecidableEq, Repr

/-- Why a command has no meaning. No command is refused: what no link can deliver has no effect
(assumption log 1). -/
inductive Refusal where
  /-- Raised by an arm of `exec` for a row without a meaning yet. Safe: nothing is claimed of it.
  No arm raises it. -/
  | notModelled (mnemonic : String)
  deriving DecidableEq, Repr

/-! ### Reset -/

/-- Every count of the block is 0 (R14). -/
def UpstreamCounts.zero : UpstreamCounts :=
  { headerErrors := 0, payloadErrors := 0, kindErrors := 0, desyncBursts := 0
    truncatedPackets := 0, tokenErrors := 0, collisions := 0, hubClears := 0 }

/-- R14: FOLLOWER and RESTING, no packet in progress, every count 0. -/
def Upstream.reset : Upstream :=
  { direction := .follower, rx := .resting, inProgress := none, turn := none
    counts := .zero }

/-- R46: both banks OFF and no commit pending. -/
def StreamTable.reset : StreamTable :=
  { active := Vector.replicate 31 .off, staged := Vector.replicate 31 .off, commit := .none }

/-- Every count of the block is 0 (R111). -/
def PortCounts.zero : PortCounts :=
  { piecesSent := 0, bursts := 0, exchanges := 0, answerTimeouts := 0, collisions := 0
    failures := 0, strayAnswers := 0, badChecks := 0, flushedPieces := 0 }

/-- R81: CLEARING toward READY with the hub holding, sending CLEAR at once (R101). The receiver, which
listens to nothing then, rests (DESIGN CHOICE, assumption log 18). -/
def Port.reset : Port :=
  { phase := .clearing .ready, holder := .hub, seize := none, rx := .resting, tx := .clear
    queue := [], pendingAnswer := none, exchange := none, answerTimer := none, limit := none
    failures := 0, answerTimeout := 1000, failureLimit := 3, owed := .none, counts := .zero }

/-- R112, R130: every record free, the transaction deadline 50 ms. -/
def TransactionTable.reset : TransactionTable :=
  { records := Vector.replicate 16 none, deadlineMs := 50 }

/-- R133: every slot empty, the flag clear, every mask item enabled, budget 8, counts 0; R145: ATTNn
deasserted. -/
def ReturnQueue.reset : ReturnQueue :=
  { entries := [], reserved := 0, lost := .clear
    mask := { completion := true, mgmtReply := true, event := true, lost := true }
    budget := 8, counts := { reportsLost := 0, eventsLost := 0, mgmtDiscarded := 0 }
    attention := false }

/-- R148, R159: no members, OFF, window 1,000 µs, an empty round, round number 0, counts 0. -/
def SyncGroup.reset : SyncGroup :=
  { members := 0, mode := .off, window := 1000, reported := 0, timer := none, roundNumber := 0
    rounds := 0, splits := 0, earlySyncs := 0 }

/-- The machine right after a reset: every field at the value the spec states for it. -/
def State.reset : State :=
  { upstream := .reset
    table    := .reset
    ports    := Vector.replicate 4 .reset
    txns     := .reset
    ret      := .reset
    sync     := { groups := Vector.replicate 4 .reset, unwatchedSyncs := 0 }
    agent    := { queue := [], inExecution := none }
    ingress  := { streams := Vector.replicate 31 { admitted := 0, refused := 0, unmappedLines := 0 }
                  refusals := Vector.replicate 9 0 }
    pending  := [] }

end Sys2Proof.Machine
end

