-- ==== Sys2Proof/Machine/Wire.lean ====
section
/-! DEFINITION. The wire formats of Chapter 10: codes, the two checks, the packet header, and the
payloads the hub composes. Every number wider than a byte goes most significant byte first (R181). -/

namespace Sys2Proof.Machine

/-! ### Numbers as bytes (R181) -/

/-- A number as one byte. -/
def byte (n : Nat) : Byte := BitVec.ofNat 8 n

/-- A number as two bytes, high byte first. -/
def bytes2 (n : Nat) : List Byte := [byte (n / 256), byte n]

/-- A number as four bytes, high byte first. -/
def bytes4 (n : Nat) : List Byte :=
  [byte (n / 16777216), byte (n / 65536), byte (n / 256), byte n]

/-- The number that a high and a low byte stand for. -/
def pair (hi lo : Byte) : Nat := hi.toNat * 256 + lo.toNat

/-- A 16-bit word as its two bytes in wire order. -/
def halfBytes (w : Half) : List Byte := bytes2 w.toNat

/-- A set or clear flag as a number. -/
def flagBit (b : Bool) : Nat := if b then 1 else 0

/-! ### The two checks (R11, R181) -/

/-- One bit step of the CRC-8 with polynomial 0x07. -/
def crc8Step (c : Byte) : Byte := if c.msb then (c <<< 1) ^^^ 0x07#8 else c <<< 1

/-- One byte of the CRC-8, most significant bit first. -/
def crc8Byte (c b : Byte) : Byte := (List.range 8).foldl (fun c _ => crc8Step c) (c ^^^ b)

/-- The header check: CRC-8, initial value 0. -/
def crc8 (bytes : List Byte) : Byte := bytes.foldl crc8Byte 0x00#8

/-- One bit step of the CRC-16 with polynomial 0x1021. -/
def crc16Step (c : Half) : Half := if c.msb then (c <<< 1) ^^^ 0x1021#16 else c <<< 1

/-- One byte of the CRC-16, most significant bit first. -/
def crc16Byte (c : Half) (b : Byte) : Half :=
  (List.range 8).foldl (fun c _ => crc16Step c) (c ^^^ (b.zeroExtend 16 <<< 8))

/-- The payload check: CRC-16, initial value 0xFFFF. -/
def crc16 (bytes : List Byte) : Half := bytes.foldl crc16Byte 0xFFFF#16

/-! ### Kinds and tokens (R182) -/

/-- The kind codes of R182. -/
inductive KindCode where
  | frameStart | line | write | read | limit | mgmt | reply | report | mgmtReply | event | room
  | fault
  deriving DecidableEq, Repr

/-- The code of a kind (R182). -/
def KindCode.code : KindCode → Byte
  | .frameStart => 0x10
  | .line       => 0x11
  | .write      => 0x20
  | .read       => 0x21
  | .limit      => 0x22
  | .mgmt       => 0x30
  | .reply      => 0x40
  | .report     => 0x41
  | .mgmtReply  => 0x42
  | .event      => 0x43
  | .room       => 0x44
  | .fault      => 0x45

/-- Every kind, in the order of the table of R182. -/
def allKinds : List KindCode :=
  [.frameStart, .line, .write, .read, .limit, .mgmt, .reply, .report, .mgmtReply, .event, .room,
   .fault]

/-- The kind a Kind byte names, if it names one (R11: any other byte is no bad header). -/
def kindOfByte (b : Byte) : Option KindCode := allKinds.find? fun k => k.code == b

/-- The code of the token PASS (R182). -/
def tokenPass : Byte := 0xB4
/-- The code of the token ACK (R182). -/
def tokenAck : Byte := 0x2D
/-- The code of the token SYNC (R182). -/
def tokenSync : Byte := 0x63
/-- The code of the token CLEAR (R182). -/
def tokenClear : Byte := 0xC9

/-! ### The header (R182) -/

/-- The first nine bytes of a header: Kind, Stream with Ack-request and the spare bits 0, Tag with the
high bits of Line, Line, Column, Length. -/
def headerBody (kind : Byte) (stream : Nat) (ackRequest : Bool) (tag line column length : Nat) :
    List Byte :=
  [kind,
   byte (stream * 8 + flagBit ackRequest * 4),
   byte (tag * 16 + line / 256),
   byte line,
   byte (column / 32),
   byte (column % 32 * 8 + length / 16777216),
   byte (length / 65536),
   byte (length / 256),
   byte length]

/-- A header with its check in the tenth byte (R3, R181). -/
def composeHeader (kind : Byte) (stream : Nat) (ackRequest : Bool) (tag line column length : Nat) :
    List Byte :=
  let body := headerBody kind stream ackRequest tag line column length
  body ++ [crc8 body]

/-- R3: a payload is followed by its check; a packet of Length 0 has neither. -/
def composePayload (payload : List Byte) : List Byte :=
  if payload.isEmpty then [] else payload ++ halfBytes (crc16 payload)

/-- A whole packet as the hub sends it (R3, R12). -/
def composePacket (kind : KindCode) (stream : Nat) (ackRequest : Bool) (tag line column : Nat)
    (payload : List Byte) : List Byte :=
  composeHeader kind.code stream ackRequest tag line column payload.length
    ++ composePayload payload

/-- A packet the hub sends upstream: Ack-request, Line and Column have no meaning there (R12). -/
def upstreamPacket (kind : KindCode) (stream : Nat) (tag : Tag) (payload : List Byte) : List Byte :=
  composePacket kind stream false tag 0 0 payload

/-- The kind code of a piece (R182). -/
def PieceKind.kindCode : PieceKind → KindCode
  | .frameStart => .frameStart
  | .line       => .line
  | .write      => .write
  | .read       => .read
  | .limit      => .limit

/-- The packet a port sends for a piece (R70, R87): Kind, Stream from the Out stream, Tag,
Ack-request, Line and Column from the record, Length from the payload. -/
def Piece.wire (x : Piece) : List Byte :=
  composePacket x.kind.kindCode x.outStream x.ackRequest x.tag
    (x.position.elim 0 Position.line) (x.position.elim 0 Position.column) x.payload

/-- The kind code of an entry (R133). -/
def EntryKind.kindCode : EntryKind → KindCode
  | .reply     => .reply
  | .report    => .report
  | .mgmtReply => .mgmtReply
  | .event     => .event

/-- The packet the hub sends for an entry (R133, R140). -/
def Entry.wire (e : Entry) : List Byte :=
  upstreamPacket e.kind.kindCode e.stream e.tag e.payload

/-! ### Codes of results (R183 to R185) -/

/-- The outcome codes (R183). -/
def PartOutcome.code : PartOutcome → Byte
  | .ack       => 1
  | .data      => 2
  | .fault     => 3
  | .noAnswer  => 4
  | .oversize  => 5
  | .badCheck  => 6
  | .flushed   => 7
  | .expired   => 8
  | .down      => 9

/-- The place of a reason in the REFUSALS block (R64). -/
def RefusalReason.place : RefusalReason → Fin 9
  | .streamOff     => 0
  | .classMismatch => 1
  | .malformed     => 2
  | .tooLong       => 3
  | .tagBusy       => 4
  | .multiRead     => 5
  | .noPort        => 6
  | .noRoom        => 7
  | .payloadCheck  => 8

/-- The reason codes (R183). -/
def RefusalReason.code (r : RefusalReason) : Byte := byte (r.place + 1)

/-- A request kind as the kind code of its packet (R183). -/
def RequestKind.code : RequestKind → Byte
  | .read  => KindCode.read.code
  | .write => KindCode.write.code

/-- The port state codes (R184). -/
def PortPhase.code : PortPhase → Byte
  | .clearing _ => 0
  | .ready      => 1
  | .sending    => 2
  | .waiting    => 3
  | .watching   => 4
  | .down _     => 5

/-- The cause codes (R184, R185). -/
def Cause.code : Cause → Byte
  | .failed  => 1
  | .stopped => 2

/-- A destination as a port state code (R185). -/
def Destination.code : Destination → Byte
  | .ready  => 1
  | .down _ => 5

/-- The mode codes (R185). -/
def GroupMode.code : GroupMode → Byte
  | .off       => 0
  | .once      => 1
  | .repeating => 2

/-- The statuses of a MGMT-REPLY (R166). -/
inductive Status where
  | done | pending | busy | badArg | badEntry | noCommit | unknown | overrun | badCheck
  deriving DecidableEq, Repr

/-- The status codes (R185). -/
def Status.code : Status → Byte
  | .done     => 0
  | .pending  => 1
  | .busy     => 2
  | .badArg   => 3
  | .badEntry => 4
  | .noCommit => 5
  | .unknown  => 6
  | .overrun  => 7
  | .badCheck => 8

/-! ### Payloads (R183, R184) -/

/-- The flags byte of a port record: bit 0 Partial, bit 1 error word present (R183). -/
def PortRecord.flags (r : PortRecord) : Byte :=
  byte (flagBit r.isPartial + 2 * flagBit r.errorWord.isSome)

/-- The error word of a port record, 0x0000 when none is held (R183). -/
def PortRecord.wordBytes (r : PortRecord) : List Byte := halfBytes (r.errorWord.getD 0)

/-- The outcome code of a port record, 0 while it is not RESOLVED (R185). -/
def PartState.outcomeCode : PartState → Byte
  | .resolved o => o.code
  | .queued     => 0
  | .awaiting   => 0

/-- A port record of a REPORT, 5 bytes (R183). -/
def PortRecord.reportBytes (r : PortRecord) : List Byte :=
  [byte r.port, r.state.outcomeCode, r.flags] ++ r.wordBytes

/-- The payload of a completion REPORT (R126, R183). -/
def Transaction.reportPayload (x : Transaction) : List Byte :=
  [x.kind.code, 0, byte x.parts.length] ++ x.parts.flatMap PortRecord.reportBytes

/-- The payload of a refusal REPORT (R63, R183). -/
def refusalPayload (kind : RequestKind) (reason : RefusalReason) : List Byte :=
  [kind.code, 1, reason.code]

/-- The five events (R144). -/
inductive HubEvent where
  | commitDone (stream : Nat)
  | syncRound (g : GroupId) (roundNumber : Nat)
  | syncSplit (g : GroupId) (reported : PortSet)
  | groupOff (g : GroupId)
  | portDown (p : PortId) (cause : Cause)
  deriving DecidableEq, Repr

/-- The payload of an EVENT (R184). -/
def HubEvent.payload : HubEvent → List Byte
  | .commitDone stream => [1, byte stream]
  | .syncRound g n     => [2, byte g] ++ bytes2 n
  | .syncSplit g set   => [3, byte g, byte set.toNat]
  | .groupOff g        => [4, byte g]
  | .portDown p c      => [5, byte p, c.code]

end Sys2Proof.Machine
end

