-- ==== Sys2Proof/Machine/Flags.lean ====
section
/-! DEFINITION. Every flag the hub computes: counts that stop, the lost flag and its carried mark,
the attention output, the flags of the ROOM, and the Partial flag's "already started" judgement. -/

namespace Sys2Proof.Machine

/-! ### Counts (R175) -/

/-- One more: a count stops at 4,294,967,295 and does not wrap (R175). -/
def bump (c : Count) : Count := if c = BitVec.allOnes 32 then c else c + 1

/-- `n` more, stopping as `bump` does (R100, R175). -/
def bumpBy (n : Nat) (c : Count) : Count :=
  BitVec.ofNat 32 (min (c.toNat + n) 4294967295)

/-! ### The lost flag (R138) -/

/-- A loss sets the flag, and it is then not carried, whatever it was. -/
def LostFlag.afterLoss (_ : LostFlag) : LostFlag := .set

/-- A ROOM that carries the flag set makes it carried. -/
def LostFlag.afterRoomBuilt : LostFlag → LostFlag
  | .clear   => .clear
  | .set     => .carried
  | .carried => .carried

/-- A ROOM sent in full clears a carried flag only. -/
def LostFlag.afterRoomSent : LostFlag → LostFlag
  | .clear   => .clear
  | .set     => .set
  | .carried => .clear

/-- Whether the flag is set, carried or not. -/
def LostFlag.isSet : LostFlag → Bool
  | .clear   => false
  | .set     => true
  | .carried => true

/-! ### The attention output (R145) -/

/-- Whether an enabled item of the mask covers an entry of this kind: COMPLETION covers every REPLY
and every REPORT. -/
def AttentionMask.covers (m : AttentionMask) : EntryKind → Bool
  | .reply     => m.completion
  | .report    => m.completion
  | .mgmtReply => m.mgmtReply
  | .event     => m.event

/-- Whether ATTNn is asserted over these contents (R145). -/
def ReturnQueue.callsHost (q : ReturnQueue) : Bool :=
  q.entries.any (fun e => q.mask.covers e.kind) || (q.lost.isSet && q.mask.lost)

/-- ATTNn is judged again, and the output follows at once (R145). -/
def ReturnQueue.judged (q : ReturnQueue) : ReturnQueue := { q with attention := q.callsHost }

/-! ### Flags of the ROOM (R184) -/

/-- The flags byte: bit 0 Lost, bit 1 Commit pending. -/
def roomFlags (lost : LostFlag) (commit : CommitState) : Byte :=
  byte (flagBit lost.isSet + 2 * flagBit (commit == .pendingFrame))

/-! ### Partial (R85, R100, R119) -/

/-- Whether these pieces of one request, being those of a WRITE, lack some index from 1 to their
piece count: an earlier piece has then been sent. READ pieces hold no index. -/
def lacksIndex (pieces : List Piece) : Bool :=
  match pieces.head?.bind Piece.place with
  | none   => false
  | some i => !(List.range i.count).all fun k =>
      pieces.any fun x => x.place.any fun j => j.index == k + 1

/-- Whether some piece of the request of tag `t` had already been started: the piece on the wire was
one of them, or the removed pieces lack an index (R85, R100). -/
def startedBefore (t : Tag) (onWire : Option Piece) (removed : List Piece) : Bool :=
  onWire.any (fun x => x.link == some t) || lacksIndex removed

end Sys2Proof.Machine
end

