-- ==== Sys2Proof/Machine/Ops.lean ====
section
/-! DEFINITION. The named operations over the state: one reader and one writer for each block, the
ports, records, groups and counts by their numbers, and what the blocks read of one another. -/

namespace Sys2Proof.Machine

/-- The four ports, in ascending order. -/
def allPorts : List PortId := [0, 1, 2, 3]

/-- The four groups, in ascending order. -/
def allGroups : List GroupId := [0, 1, 2, 3]

/-- A value for each of the four ports or groups. -/
def forFour {α : Type} (f : Fin 4 → α) : Vector α 4 := #v[f 0, f 1, f 2, f 3]

/-- The sixteen tags, in ascending order. -/
def allTags : List Tag := List.finRange 16

/-! ### Port sets -/

/-- Whether a port is in the set. -/
def PortSet.has (ps : PortSet) (p : PortId) : Bool := ps.getLsbD p

/-- The set with one more port. -/
def PortSet.insert (ps : PortSet) (p : PortId) : PortSet := ps ||| (1#4 <<< p.val)

/-- The ports of the set, in ascending order. -/
def PortSet.toList (ps : PortSet) : List PortId := allPorts.filter (PortSet.has ps)

/-! ### Blocks of the state -/

/-- Replaces the upstream port. -/
def State.withUpstream (s : State) (x : Upstream) : State := { s with upstream := x }
/-- Replaces the stream table. -/
def State.withTable (s : State) (x : StreamTable) : State := { s with table := x }
/-- Replaces the four tile ports. -/
def State.withPorts (s : State) (x : Vector Port 4) : State := { s with ports := x }
/-- Replaces the transaction table. -/
def State.withTxns (s : State) (x : TransactionTable) : State := { s with txns := x }
/-- Replaces the return queue. -/
def State.withRet (s : State) (x : ReturnQueue) : State := { s with ret := x }
/-- Replaces the sync groups. -/
def State.withSync (s : State) (x : SyncBlock) : State := { s with sync := x }
/-- Replaces the management agent. -/
def State.withAgent (s : State) (x : Agent) : State := { s with agent := x }
/-- Replaces the counts of ingress. -/
def State.withIngress (s : State) (x : IngressCounts) : State := { s with ingress := x }
/-- Replaces the model's queue of commands. -/
def State.withPending (s : State) (x : List Instr) : State := { s with pending := x }

/-! ### Ports, records, groups and counts -/

/-- Tile port `p`. -/
def State.port (s : State) (p : PortId) : Port := s.ports[p]

/-- Replaces tile port `p`. -/
def State.setPort (s : State) (p : PortId) (x : Port) : State := s.withPorts (s.ports.set p x)

/-- The record of tag `t`, `none` when the tag is free. -/
def State.record (s : State) (t : Tag) : Option Transaction := s.txns.records[t]

/-- Replaces the record of tag `t`. -/
def State.setRecord (s : State) (t : Tag) (x : Option Transaction) : State :=
  s.withTxns { s.txns with records := s.txns.records.set t x }

/-- Sync group `g`. -/
def State.group (s : State) (g : GroupId) : SyncGroup := s.sync.groups[g]

/-- Replaces sync group `g`. -/
def State.setGroup (s : State) (g : GroupId) (x : SyncGroup) : State :=
  s.withSync { s.sync with groups := s.sync.groups.set g x }

/-- Changes the counts of the UPSTREAM block. -/
def State.countUpstream (s : State) (f : UpstreamCounts → UpstreamCounts) : State :=
  s.withUpstream { s.upstream with counts := f s.upstream.counts }

/-- Changes the counts of port `p`'s PORT block. -/
def State.countPort (s : State) (p : PortId) (f : PortCounts → PortCounts) : State :=
  s.setPort p { s.port p with counts := f (s.port p).counts }

/-- The STREAM block of a stream id; 31 has none (R175). -/
def State.streamCounts (s : State) (stream : Nat) : Option StreamCounts :=
  s.ingress.streams[stream]?

/-- Changes the counts of one STREAM block; stream 31 has none (R175). -/
def State.countStream (s : State) (stream : Nat) (f : StreamCounts → StreamCounts) : State :=
  s.withIngress
    { s.ingress with
      streams := s.ingress.streams.mapIdx fun i c => if i = stream then f c else c }

/-- One more refusal for a reason in the REFUSALS block (R62). -/
def State.countRefusal (s : State) (r : RefusalReason) : State :=
  s.withIngress
    { s.ingress with refusals := s.ingress.refusals.set r.place (bump s.ingress.refusals[r.place]) }

/-! ### What blocks read of one another -/

/-- R56: a port is live when it is neither DOWN nor CLEARING bound for DOWN. -/
def Port.live (x : Port) : Bool :=
  match x.phase with
  | .down _            => false
  | .clearing (.down _) => false
  | .clearing .ready   => true
  | .ready | .sending | .waiting | .watching => true

/-- Whether a port is DOWN. -/
def Port.isDown (x : Port) : Bool :=
  match x.phase with
  | .down _ => true
  | .clearing _ | .ready | .sending | .waiting | .watching => false

/-- Whether the tile holds the link and the hub receives from it: in WAITING and WATCHING (section
1.7; a DOWN port receives nothing, R103, and a seize receives nothing, R10). -/
def Port.receives (x : Port) : Bool :=
  match x.phase with
  | .waiting | .watching => true
  | .clearing _ | .ready | .sending | .down _ => false

/-- R83: the payload bytes of an egress queue. -/
def queueBytes (q : List Piece) : Nat := (q.map fun x => x.payload.length).sum

/-- R58: the free pieces of a port. -/
def Port.freePieces (x : Port) : Nat := Config.pieceCapacity - x.queue.length

/-- R58: the free bytes of a port. -/
def Port.freeBytes (x : Port) : Nat := Config.byteCapacity - queueBytes x.queue

/-- The piece on the wire: the head of the queue while the port sends a piece (R83). -/
def Port.onWire (x : Port) : Option Piece :=
  match x.phase, x.tx with
  | .sending, .piece _ => x.queue.head?
  | _, _               => none

/-- Whether a group is armed (R148). -/
def SyncGroup.armed (x : SyncGroup) : Bool := x.mode != .off

/-- The group of which a port is a member; SYNC-SET keeps it at most one (R149). -/
def State.groupOf (s : State) (p : PortId) : Option GroupId :=
  allGroups.find? fun g => PortSet.has (s.group g).members p

/-- R109: a port is wanted to watch while it belongs to an armed group. -/
def State.wanted (s : State) (p : PortId) : Bool :=
  allGroups.any fun g => (s.group g).armed && PortSet.has (s.group g).members p

/-- R151: the members of a port set whose ports are not DOWN. -/
def State.presentMembers (s : State) (ps : PortSet) : List PortId :=
  (PortSet.toList ps).filter fun p => !(s.port p).isDown

/-- R113: a tag is held while the table has a record for it, OPEN or DONE. -/
def State.tagHeld (s : State) (t : Tag) : Bool := (s.record t).isSome

/-- R133: the shared slots that neither hold an entry nor are reserved. -/
def ReturnQueue.freeShared (q : ReturnQueue) : Nat :=
  Config.sharedSlots - (q.entries.countP fun e => e.slot == .shared) - q.reserved

end Sys2Proof.Machine
end

