-- ==== Sys2Proof/Machine/ReturnQueue.lean ====
section
/-! DEFINITION. The return queue's operations (Chapter 7): entries joining it, entries lost for want
of a shared slot, the ROOM, and the course of a return turn. -/

namespace Sys2Proof.Machine

/-- R137: an entry joins at the young end; ATTNn is judged again (R145). -/
def ReturnQueue.push (q : ReturnQueue) (e : Entry) : ReturnQueue :=
  ({ q with entries := q.entries ++ [e] }).judged

/-- R136, R138: a loss is counted and sets the lost flag. -/
def ReturnQueue.lose (q : ReturnQueue) (count : ReturnCounts → ReturnCounts) : ReturnQueue :=
  ({ q with counts := count q.counts, lost := q.lost.afterLoss }).judged

/-- R135: a direct request for a shared slot; without a free one the entry is lost. -/
def ReturnQueue.request (q : ReturnQueue) (e : Entry) (count : ReturnCounts → ReturnCounts) :
    ReturnQueue :=
  if q.freeShared = 0 then q.lose count else q.push e

/-- R135: the reply of an accepted command fills the slot reserved for it. -/
def ReturnQueue.fillReserved (q : ReturnQueue) (e : Entry) : ReturnQueue :=
  ({ q with reserved := q.reserved - 1 }).push e

/-- R136: one more report lost. -/
def ReturnCounts.reportLost (c : ReturnCounts) : ReturnCounts :=
  { c with reportsLost := bump c.reportsLost }

/-- R136: one more event lost. -/
def ReturnCounts.eventLost (c : ReturnCounts) : ReturnCounts :=
  { c with eventsLost := bump c.eventsLost }

/-- R136: one more management packet or reply discarded. -/
def ReturnCounts.mgmtLost (c : ReturnCounts) : ReturnCounts :=
  { c with mgmtDiscarded := bump c.mgmtDiscarded }

/-! ### Entries (R133, R136) -/

/-- R144: an EVENT carries stream 31 and tag 0. -/
def HubEvent.entry (e : HubEvent) : Entry :=
  { kind := .event, tag := 0, stream := Config.managementStream, payload := e.payload
    slot := .shared }

/-- R166: a MGMT-REPLY; a reply with a status other than DONE carries no result. -/
def mgmtReplyEntry (tag : Tag) (code : Byte) (status : Status) (result : List Byte) : Entry :=
  { kind := .mgmtReply, tag := tag, stream := Config.managementStream
    payload := [code, status.code] ++ (if status = .done then result else [])
    slot := .shared }

/-- R63: a refusal REPORT, in a shared slot. -/
def refusalEntry (tag : Tag) (stream : Nat) (kind : RequestKind) (reason : RefusalReason) : Entry :=
  { kind := .report, tag := tag, stream := stream, payload := refusalPayload kind reason
    slot := .shared }

/-- R125: the REPLY of a completed READ, in its tag's REPLY slot. -/
def Transaction.replyEntry (x : Transaction) (t : Tag) (data : List Byte) : Entry :=
  { kind := .reply, tag := t, stream := x.stream, payload := data, slot := .replyOf t }

/-- R126: the completion REPORT, in its tag's REPORT slot. -/
def Transaction.reportEntry (x : Transaction) (t : Tag) : Entry :=
  { kind := .report, tag := t, stream := x.stream, payload := x.reportPayload, slot := .reportOf t }

/-- R144: an event is made once; it takes a free shared slot or is lost. -/
def State.emit (s : State) (e : HubEvent) : State :=
  s.withRet (s.ret.request e.entry ReturnCounts.eventLost)

/-! ### The ROOM (R143, R184) -/

/-- The four bytes of one port group. -/
def Port.roomGroup (x : Port) : List Byte :=
  [x.phase.code, byte x.freePieces] ++ bytes2 x.freeBytes

/-- The tags in use as a 16-bit number: bit n is set when tag n is held. -/
def State.tagsInUse (s : State) : Nat :=
  (allTags.map fun t => flagBit (s.tagHeld t) * 2 ^ t.val).sum

/-- The ROOM payload, 20 bytes (R184). -/
def State.roomPayload (s : State) : List Byte :=
  (allPorts.flatMap fun p => (s.port p).roomGroup)
    ++ [byte s.ret.freeShared] ++ bytes2 s.tagsInUse ++ [roomFlags s.ret.lost s.table.commit]

/-- The ROOM as it goes on the wire (R12: stream 31, tag 0). -/
def State.roomWire (s : State) : List Byte :=
  upstreamPacket .room Config.managementStream 0 s.roomPayload

/-! ### Return turns (R22, R139 to R142) -/

/-- R22, R139: the direction becomes HOLDER, the ROOM is built and the budget read; a lost flag that
the ROOM carries becomes carried (R138). -/
def State.startTurn (s : State) : State :=
  (s.withUpstream
    { s.upstream with
      direction := .holder
      turn := some { budget := s.ret.budget, sent := 0, phase := .room, wire := s.roomWire } })
  |>.withRet { s.ret with lost := s.ret.lost.afterRoomBuilt }

/-- R140: what a turn sends after the ROOM or an entry. -/
def nextInTurn (turn : Turn) (entries : List Entry) : Turn :=
  if turn.sent < turn.budget then
    match entries with
    | e :: _ => { turn with phase := .entry, wire := e.wire }
    | []     => { turn with phase := .closing, wire := [] }
  else { turn with phase := .closing, wire := [] }

/-- The turn with the next packet chosen (R140). -/
def State.setTurn (s : State) (turn : Option Turn) : State :=
  s.withUpstream { s.upstream with turn := turn }

/-- R8, R22: the hub gives the upstream link up: FOLLOWER, RESTING, and no turn. -/
def State.endTurn (s : State) : State :=
  s.withUpstream
    { s.upstream with direction := .follower, rx := .resting, inProgress := none, turn := none }

/-- R138, R140: the ROOM has been sent in full. -/
def State.roomSent (s : State) (turn : Turn) : State :=
  (s.withRet ({ s.ret with lost := s.ret.lost.afterRoomSent }).judged).setTurn
    (some (nextInTurn turn s.ret.entries))

/-- R127: the record of a completion REPORT that has been sent is freed. -/
def State.releaseFor (s : State) (e : Entry) : State :=
  match e.slot with
  | .reportOf t => s.setRecord t none
  | .replyOf _  => s
  | .shared     => s

/-- R141: the entry at the head has been sent in full: it leaves the queue and its slot, a completion
REPORT frees its record, and the next packet of the turn is chosen. -/
def State.entrySent (s : State) (turn : Turn) (e : Entry) (rest : List Entry) : State :=
  ((s.withRet ({ s.ret with entries := rest }).judged).releaseFor e).setTurn
    (some (nextInTurn { turn with sent := turn.sent + 1 } rest))

end Sys2Proof.Machine
end

