-- ==== Sys2Proof/Machine/Transactions.lean ====
section
/-! DEFINITION. The transaction table's operations (Chapter 6): creation, the resolution of port
records, completion and its entries. -/

namespace Sys2Proof.Machine

/-! ### Creation (R61, R114) -/

/-- The port record of a member: QUEUED when it is a target port; otherwise it was not live, and its
record is RESOLVED DOWN from the start. -/
def newPart (isTarget : Bool) (p : PortId) : PortRecord :=
  { port := p, state := if isTarget then .queued else .resolved .down
    isPartial := false, errorWord := none }

/-- R120: the deadline a new record starts with; 0 ms means none. -/
def TransactionTable.newDeadline (x : TransactionTable) : Option Nat :=
  if x.deadlineMs = 0 then none else some (x.deadlineMs * Config.microsPerMilli)

/-- R114: the record of an admitted request. -/
def newTransaction (kind : RequestKind) (stream : Nat) (deadline : Option Nat) (members : PortSet)
    (targets : List PortId) : Transaction :=
  { kind := kind, stream := stream, state := .opened, deadline := deadline
    parts := (PortSet.toList members).map fun p => newPart (targets.contains p) p
    data := none }

/-! ### Progress (R115 to R119) -/

/-- Whether a port record is settled. -/
def PortRecord.settled (r : PortRecord) : Bool :=
  match r.state with
  | .resolved _ => true
  | .queued     => false
  | .awaiting   => false

/-- R115: the port record of port `p` becomes AWAITING. -/
def Transaction.await (x : Transaction) (p : PortId) : Transaction :=
  { x with parts := x.parts.map fun r =>
      if r.port = p ∧ r.state = .queued then { r with state := .awaiting } else r }

/-- The port record of port `p`, if it is not settled, becomes RESOLVED; a settled one keeps its
outcome, Partial flag and error word (section 6.4). -/
def Transaction.settle (x : Transaction) (p : PortId) (outcome : PartOutcome) (isPartial : Bool)
    (errorWord : Option Half) : Transaction :=
  { x with parts := x.parts.map fun r =>
      if r.port = p ∧ r.settled = false then
        { r with state := .resolved outcome, isPartial := isPartial, errorWord := errorWord }
      else r }

/-- R124: no port record is left unresolved. -/
def Transaction.finished (x : Transaction) : Bool := x.parts.all PortRecord.settled

/-- R124: a completed record is DONE and its deadline stops. -/
def Transaction.closed (x : Transaction) : Transaction := { x with state := .done, deadline := none }

/-- R124, R125: the entries of a completed record: a READ that holds data places its REPLY first. -/
def Transaction.completionEntries (x : Transaction) (t : Tag) : List Entry :=
  match x.kind, x.data with
  | .read, some d => [x.replyEntry t d, x.reportEntry t]
  | _, _          => [x.reportEntry t]

/-- R124: at completion the record becomes DONE and its answers join the return queue, one right
after the other. -/
def State.complete (s : State) (t : Tag) (x : Transaction) : State :=
  (s.setRecord t (some x.closed)).withRet
    ((x.completionEntries t).foldl ReturnQueue.push s.ret)

/-- Stores a record after a resolution; when none of its port records is left unresolved, it
completes at the same event. -/
def State.storeOrComplete (s : State) (t : Tag) (x : Transaction) : State :=
  if x.finished then s.complete t x else s.setRecord t (some x)

/-- Applies a change to the OPEN record of tag `t`; a free or DONE one is left as it is. -/
def State.onOpenRecord (s : State) (t : Tag) (f : Transaction → State) : State :=
  match s.record t with
  | some x => if x.state = .opened then f x else s
  | none   => s

/-- R115: the exchange for tag `t` has opened on port `p`. -/
def State.partAwaits (s : State) (t : Tag) (p : PortId) : State :=
  s.onOpenRecord t fun x => s.setRecord t (some (x.await p))

/-- What a flush notice says (R100, R118). -/
structure Notice where
  tag       : Tag
  outcome   : PartOutcome
  isPartial : Bool
  deriving DecidableEq, Repr

/-- R118: a flush notice resolves one port record; it brings no error word and no data. -/
def State.takeNotice (p : PortId) (s : State) (n : Notice) : State :=
  s.onOpenRecord n.tag fun x => s.storeOrComplete n.tag (x.settle p n.outcome n.isPartial none)

/-- R116: the outcome of an exchange result, the first whose condition the result meets. -/
def Exchange.outcome (x : Exchange) : PartOutcome :=
  if x.badCheck then .badCheck
  else if x.oversize then .oversize
  else if x.errorWord.isSome then .fault
  else match x.answers with
    | .read _ => if x.reply.isSome then .data else .noAnswer
    | .write  => if x.ackSeen then .ack else .noAnswer
    | .watch  => .noAnswer

/-- R117: READ data is stored from the Reply of a READ exchange, whatever the outcome. -/
def Exchange.dataFor (x : Exchange) (held : Option (List Byte)) : Option (List Byte) :=
  match x.answers, x.reply with
  | .read _, some d => some d
  | _, _            => held

/-- R116, R117: the table takes the result of a closed exchange of port `p`. -/
def State.takeResult (s : State) (p : PortId) (e : Exchange) : State :=
  s.onOpenRecord e.tag fun x =>
    s.storeOrComplete e.tag
      { x.settle p e.outcome false e.errorWord with data := e.dataFor x.data }

end Sys2Proof.Machine
end

