-- ==== Sys2Proof/Machine/SyncGroups.lean ====
section
/-! DEFINITION. The sync groups' operations (Chapter 8): rounds, their completion and split, and
what a member's loss of service does. -/

namespace Sys2Proof.Machine

/-- An empty round: nothing reported and the timer stopped (R148). -/
def SyncGroup.emptied (x : SyncGroup) : SyncGroup := { x with reported := 0, timer := none }

/-- R153: the group after a completed round; a ONCE group becomes OFF. -/
def SyncGroup.nextRound (x : SyncGroup) : SyncGroup :=
  { x.emptied with
    rounds := bump x.rounds
    roundNumber := (x.roundNumber + 1) % 65536
    mode := match x.mode with
      | .once      => .off
      | .repeating => .repeating
      | .off       => .off }

/-- R153: a round is complete: SYNC-ROUND names the round completed. -/
def State.completeRound (s : State) (g : GroupId) : State :=
  (s.emit (.syncRound g (s.group g).roundNumber)).setGroup g (s.group g).nextRound

/-- R154: the group after a split; round number and mode are unchanged. -/
def SyncGroup.afterSplit (x : SyncGroup) : SyncGroup := { x.emptied with splits := bump x.splits }

/-- R154: the window expires: SYNC-SPLIT names the ports that reported. -/
def State.splitRound (s : State) (g : GroupId) : State :=
  (s.emit (.syncSplit g (s.group g).reported)).setGroup g (s.group g).afterSplit

/-- R155: the group goes OFF for want of present members; members and window are kept. -/
def State.groupOff (s : State) (g : GroupId) : State :=
  (s.emit (.groupOff g)).setGroup g { (s.group g).emptied with mode := .off }

/-- R151: the round has at least one present member and every present member has reported. -/
def State.roundComplete (s : State) (g : GroupId) : Bool :=
  let present := s.presentMembers (s.group g).members
  !present.isEmpty && present.all (PortSet.has (s.group g).reported)

/-- R151: judges the round of group `g`. -/
def State.judgeRound (s : State) (g : GroupId) : State :=
  if s.roundComplete g then s.completeRound g else s

/-- R152: the group with one more port reported; the first report starts the window timer. -/
def SyncGroup.reportedBy (x : SyncGroup) (p : PortId) : SyncGroup :=
  { x with
    reported := PortSet.insert x.reported p
    timer := if x.reported = 0 then some x.window else x.timer }

/-- R152: one more unwatched SYNC. -/
def State.countUnwatched (s : State) : State :=
  s.withSync { s.sync with unwatchedSyncs := bump s.sync.unwatchedSyncs }

/-- R152: an armed group takes a member's SYNC. -/
def State.armedSync (s : State) (g : GroupId) (p : PortId) : State :=
  if PortSet.has (s.group g).reported p then
    s.setGroup g { s.group g with earlySyncs := bump (s.group g).earlySyncs }
  else (s.setGroup g ((s.group g).reportedBy p)).judgeRound g

/-- R152: a SYNC token handed over by port `p`. -/
def State.takeSync (s : State) (p : PortId) : State :=
  match s.groupOf p with
  | some g => if (s.group g).armed then s.armedSync g p else s.countUnwatched
  | none   => s.countUnwatched

/-- R155: what an armed group does when it has lost a present member. -/
def State.judgeLoss (s : State) (g : GroupId) : State :=
  if (s.presentMembers (s.group g).members).isEmpty then s.groupOff g else s.judgeRound g

/-- R155: port `p` tells the sync groups that it is DOWN. -/
def State.memberDown (s : State) (p : PortId) : State :=
  match s.groupOf p with
  | some g => if (s.group g).armed then s.judgeLoss g else s
  | none   => s

/-- R159: a group at a hub clear: OFF, with an empty round. -/
def SyncGroup.cleared (x : SyncGroup) : SyncGroup := { x.emptied with mode := .off }

end Sys2Proof.Machine
end

