-- ==== Sys2Proof/Machine/Agent.lean ====
section
/-! DEFINITION. The management agent (Chapter 9): acceptance of MGMT packets, the taking of the
oldest command, replies, and deferred commands. -/

namespace Sys2Proof.Machine

/-! ### Acceptance (R162) -/

/-- R135, R162: the agent accepts a command: one shared slot is reserved and the command joins the
queue. -/
def State.acceptCommand (s : State) (c : MgmtCommand) : State :=
  (s.withRet { s.ret with reserved := s.ret.reserved + 1 }).withAgent
    { s.agent with queue := s.agent.queue ++ [c] }

/-- The command code of a payload: its first byte, 0 when there is none (R51, R165). -/
def commandCode (payload : List Byte) : Byte := payload.headD 0

/-- R162: a command discarded with an OVERRUN reply in a free shared slot; it counts once. -/
def State.overrun (s : State) (c : MgmtCommand) : State :=
  s.withRet (({ s.ret with counts := s.ret.counts.mgmtLost }).push
    (mgmtReplyEntry c.tag (commandCode c.payload) .overrun []))

/-- R162: the agent receives a MGMT packet with a payload of 1..64 bytes. -/
def State.offerCommand (s : State) (c : MgmtCommand) : State :=
  if s.ret.freeShared = 0 then s.withRet (s.ret.lose ReturnCounts.mgmtLost)
  else if s.agent.queue.length < Config.commandQueueCapacity then s.acceptCommand c
  else s.overrun c

/-! ### Replies (R163, R166) -/

/-- R163: the reply of an accepted command fills its reserved slot. -/
def State.reply (s : State) (c : MgmtCommand) (status : Status) (result : List Byte) : State :=
  s.withRet (s.ret.fillReserved (mgmtReplyEntry c.tag (commandCode c.payload) status result))

/-- R164: at a port's notice the agent answers its deferred command DONE and holds none. -/
def State.deferredDone (s : State) (result : Byte) : State :=
  match s.agent.inExecution with
  | some c => (s.withAgent { s.agent with inExecution := none }).reply c .done [result]
  | none   => s

/-- R164: the command becomes the command in execution. -/
def State.defer (s : State) (c : MgmtCommand) : State :=
  s.withAgent { s.agent with inExecution := some c }

/-! ### The seventeen commands (R185); COMMIT has two forms -/

/-- What a command code names. -/
inductive CommandName where
  | info | stageEntry | stageOff | stageCopy | readEntry | commitNow | commitAtFrame
  | commitCancel | portSet | portStop | portRestart | portRead | syncSet | syncRead | returnSet
  | tagRead | countersRead | countersClear | unknown
  deriving DecidableEq, Repr

/-- R165, R185: the command that a payload names. A COMMIT is the row COMMIT_AT_FRAME when its form
byte is 1 and the row COMMIT_NOW otherwise, so that one whose form or length is wrong, which is
answered BAD-ARG, has one row (DESIGN CHOICE, assumption log 6). -/
def commandName (payload : List Byte) : CommandName :=
  match (commandCode payload).toNat with
  | 0x01 => .info
  | 0x02 => .stageEntry
  | 0x03 => .stageOff
  | 0x04 => .stageCopy
  | 0x05 => .readEntry
  | 0x06 => if payload[1]? = some 1 then .commitAtFrame else .commitNow
  | 0x07 => .commitCancel
  | 0x08 => .portSet
  | 0x09 => .portStop
  | 0x0A => .portRestart
  | 0x0B => .portRead
  | 0x0C => .syncSet
  | 0x0D => .syncRead
  | 0x0E => .returnSet
  | 0x0F => .tagRead
  | 0x10 => .countersRead
  | 0x11 => .countersClear
  | _    => .unknown

/-- R163: the agent takes its oldest command when none is in execution and the command is the one
the row names; otherwise that execution is not the agent's next event, and nothing happens (DESIGN
CHOICE, assumption logs 4 and 16). `run` carries the command out on the state in which it has left
the queue. -/
def State.execute (s : State) (name : CommandName) (run : MgmtCommand → State → State) : State :=
  match s.agent.inExecution, s.agent.queue with
  | none, c :: rest =>
    if commandName c.payload = name then run c (s.withAgent { s.agent with queue := rest }) else s
  | _, _ => s

/-- The argument bytes of a command. -/
def MgmtCommand.arguments (c : MgmtCommand) : List Byte := c.payload.tail

end Sys2Proof.Machine
end

