-- ==== Sys2Proof/Machine/Ports.lean ====
section
/-! DEFINITION. The tile ports' operations (Chapter 5): what a READY port does next, exchanges,
flushing and withdrawal, failures, and clearing. -/

namespace Sys2Proof.Machine

/-! ### Sending (R86 to R88) -/

/-- R87: one more burst opened. -/
def PortCounts.burst (c : PortCounts) : PortCounts := { c with bursts := bump c.bursts }
/-- R87: one more piece sent. -/
def PortCounts.pieceSent (c : PortCounts) : PortCounts :=
  { c with piecesSent := bump c.piecesSent }
/-- R90: one more exchange opened. -/
def PortCounts.exchange (c : PortCounts) : PortCounts := { c with exchanges := bump c.exchanges }
/-- R96: one more expiry of the answer timer. -/
def PortCounts.answerTimeout (c : PortCounts) : PortCounts :=
  { c with answerTimeouts := bump c.answerTimeouts }
/-- R9: one more collision. -/
def PortCounts.collision (c : PortCounts) : PortCounts := { c with collisions := bump c.collisions }
/-- R99: one more failure. -/
def PortCounts.failure (c : PortCounts) : PortCounts := { c with failures := bump c.failures }
/-- R6, R24, R91 to R93: one more stray answer. -/
def PortCounts.stray (c : PortCounts) : PortCounts := { c with strayAnswers := bump c.strayAnswers }
/-- R94: one more bad packet. -/
def PortCounts.badPacket (c : PortCounts) : PortCounts := { c with badChecks := bump c.badChecks }
/-- R100: `n` more flushed pieces. -/
def PortCounts.flushed (n : Nat) (c : PortCounts) : PortCounts :=
  { c with flushedPieces := bumpBy n c.flushedPieces }

/-- R86, R87: a port opens a burst and sends the piece at the head of its queue. The spec gives no time
between the opening of a burst and the first byte of its first piece: the model puts that piece on the
wire at the very event that opens the burst, so that no withdrawal (R85) falls between the two (DESIGN
CHOICE, assumption log 19). -/
def Port.openBurst (x : Port) (head : Piece) : Port :=
  { x with phase := .sending, tx := .piece head.wire, counts := x.counts.burst }

/-- R86: a READY port that sends nothing judges what to do: a burst when its queue holds a piece, a
PASS for a watch when it is empty and watch is wanted (R109). -/
def Port.judge (wanted : Bool) (x : Port) : Port :=
  match x.phase, x.tx, x.queue with
  | .ready, .idle, head :: _ => x.openBurst head
  | .ready, .idle, []        => if wanted then { x with tx := .passWatch } else x
  | _, _, _                  => x

/-- R86: port `p` judges what to do. -/
def State.judgePort (s : State) (p : PortId) : State :=
  s.setPort p ((s.port p).judge (s.wanted p))

/-- R88: the pending answer that a piece just sent leaves. -/
def Piece.pending (x : Piece) : PendingAnswer :=
  { tag := x.tag
    answers := match x.returnLimit with
      | some n => .read n
      | none   => .write
    link := x.link }

/-- R87, R88: the port after the piece at the head has been sent in full. A burst that finds the
queue empty ends normally: the failure count becomes 0 (R89) and the port is READY. The next piece is on
the wire at this event (DESIGN CHOICE, assumption log 19). The burst close and the PASS for an answer
are one transmission (DEDUCED, assumption log 9). -/
def Port.afterPiece (x : Port) (sent : Piece) (rest : List Piece) : Port :=
  let y := { x with queue := rest, counts := x.counts.pieceSent }
  if sent.answerRequired then { y with pendingAnswer := some sent.pending, tx := .passAnswer }
  else match rest with
    | next :: _ => { y with tx := .piece next.wire }
    | []        => { y with phase := .ready, tx := .idle, failures := 0 }

/-! ### Exchanges (R90 to R95) -/

/-- R90: the exchange that opens after an answer-required piece; it is an orphan exactly when the
pending answer carries no link. -/
def PendingAnswer.opened (a : PendingAnswer) : Exchange :=
  { tag := a.tag, answers := a.answers, reply := none, errorWord := none, ackSeen := false
    badCheck := false, oversize := false, orphan := a.link.isNone }

/-- R90: the exchange of a watch. -/
def watchExchange : Exchange :=
  { tag := 0, answers := .watch, reply := none, errorWord := none, ackSeen := false
    badCheck := false, oversize := false, orphan := false }

/-- R2, R90: the PASS has been sent in full: the tile holds the link and its receiver rests. -/
def Port.lendLink (x : Port) (phase : PortPhase) (e : Exchange) : Port :=
  { x with phase := phase, holder := .tile, rx := .resting, tx := .idle, pendingAnswer := none
           exchange := some e, counts := x.counts.exchange }

/-- R90: WAITING, with the answer timer started. -/
def Port.openExchange (x : Port) (a : PendingAnswer) : Port :=
  { x.lendLink .waiting a.opened with answerTimer := some x.answerTimeout }

/-- R90, R109: WATCHING, without a timer. -/
def Port.openWatch (x : Port) : Port := x.lendLink .watching watchExchange

/-- R91: whether a REPLY with this tag matches the open exchange. -/
def Exchange.matchesReply (e : Exchange) (tag : Tag) : Bool :=
  match e.answers with
  | .read _ => e.tag == tag && e.reply.isNone && !e.oversize
  | .write  => false
  | .watch  => false

/-- R91: a matching REPLY is stored when it fits the Return limit, and sets Oversize otherwise. -/
def Exchange.takeReply (e : Exchange) (data : List Byte) : Exchange :=
  match e.answers with
  | .read n => if data.length ≤ n then { e with reply := some data } else { e with oversize := true }
  | .write  => e
  | .watch  => e

/-- R92: whether a FAULT with this tag has its word stored. -/
def Exchange.matchesFault (e : Exchange) (tag : Tag) : Bool :=
  match e.answers with
  | .read _ => e.tag == tag && e.errorWord.isNone
  | .write  => e.tag == tag && e.errorWord.isNone
  | .watch  => false

/-- R93: whether an ACK sets ACK-seen. -/
def Exchange.matchesAck (e : Exchange) : Bool :=
  match e.answers with
  | .write  => !e.ackSeen
  | .read _ => false
  | .watch  => false

/-- Changes the open exchange when it takes what arrived; otherwise the arrival is stray. -/
def Port.exchangeTakes (x : Port) (fits : Exchange → Bool) (f : Exchange → Exchange) : Port :=
  match x.exchange with
  | some e => if fits e then { x with exchange := some (f e) }
              else { x with counts := x.counts.stray }
  | none   => { x with counts := x.counts.stray }

/-- R91: the port takes a REPLY. -/
def Port.takeReply (x : Port) (tag : Tag) (data : List Byte) : Port :=
  x.exchangeTakes (fun e => e.matchesReply tag) (fun e => e.takeReply data)

/-- R92: the port takes a FAULT. -/
def Port.takeFault (x : Port) (tag : Tag) (word : Half) : Port :=
  x.exchangeTakes (fun e => e.matchesFault tag) (fun e => { e with errorWord := some word })

/-- R93: the port takes an ACK. -/
def Port.takeAck (x : Port) : Port :=
  x.exchangeTakes Exchange.matchesAck (fun e => { e with ackSeen := true })

/-- R94: the link reports a bad packet. -/
def Port.takeBad (x : Port) : Port :=
  { x with exchange := x.exchange.map fun e => { e with badCheck := true }
           counts := x.counts.badPacket }

/-- A stray answer is counted and touches nothing else (R6, R24). -/
def Port.takeStray (x : Port) : Port := { x with counts := x.counts.stray }

/-- R89, R95: the tile's PASS ends the exchange: the hub holds the link again, the timer stops, and
the failure count becomes 0. -/
def Port.endExchange (x : Port) : Port :=
  { x with phase := .ready, holder := .hub, rx := .resting, exchange := none, answerTimer := none
           failures := 0 }

/-- R95: whether a closed exchange has a result for the transaction table. -/
def Exchange.hasResult (e : Exchange) : Bool :=
  match e.answers with
  | .read _ => !e.orphan
  | .write  => !e.orphan
  | .watch  => false

/-- R95: the result of a closed exchange goes to the table, unless it is a watch or an orphan. -/
def State.handResult (s : State) (p : PortId) (e : Exchange) : State :=
  if e.hasResult then s.takeResult p e else s

/-! ### Withdrawal (R85) -/

/-- Whether a piece carries the link of tag `t`. -/
def Piece.linkedTo (t : Tag) (x : Piece) : Bool := x.link == some t

/-- R85: strips the link of tag `t` from a piece. -/
def Piece.stripped (t : Tag) (x : Piece) : Piece :=
  if x.link = some t then { x with link := none } else x

/-- R85: strips the link of tag `t` from a pending answer. -/
def PendingAnswer.stripped (t : Tag) (a : PendingAnswer) : PendingAnswer :=
  if a.link = some t then { a with link := none } else a

/-- R83, R85: the part of the queue that is not on the wire. -/
def Port.waitingPieces (x : Port) : List Piece :=
  if x.onWire.isSome then x.queue.tail else x.queue

/-- R85: the queue after a withdrawal. The piece on the wire stays, without its link. -/
def Port.withdrawnQueue (x : Port) (t : Tag) : List Piece :=
  (x.onWire.map (Piece.stripped t)).toList ++ x.waitingPieces.filter fun y => !y.linkedTo t

/-- R85: what the port answers: whether some piece of the transaction had been started. -/
def Port.hasStarted (x : Port) (t : Tag) : Bool :=
  x.pendingAnswer.any (fun a => a.link == some t)
    || startedBefore t x.onWire (x.waitingPieces.filter (Piece.linkedTo t))

/-- R85: the port withdraws a transaction's pieces. -/
def Port.withdraw (x : Port) (t : Tag) : Port :=
  { x with queue := x.withdrawnQueue t
           pendingAnswer := x.pendingAnswer.map (PendingAnswer.stripped t) }

/-- R97, R121: the open exchange becomes an orphan. -/
def Port.orphaned (x : Port) : Port :=
  { x with exchange := x.exchange.map fun e => { e with orphan := true } }

/-! ### Flushing (R100) -/

/-- Why a port flushes (R100). -/
inductive FlushCause where
  | failureToReady | failureToDown | stop | restart | hubClear
  deriving DecidableEq, Repr

/-- R100: the outcome for the transaction of the open exchange or the pending answer. -/
def FlushCause.ownOutcome : FlushCause → PartOutcome
  | .failureToReady => .noAnswer
  | .failureToDown  => .down
  | .stop           => .down
  | .restart        => .flushed
  | .hubClear       => .flushed

/-- R100: the outcome for transactions with flushed pieces. -/
def FlushCause.queuedOutcome : FlushCause → PartOutcome
  | .failureToReady => .flushed
  | .failureToDown  => .down
  | .stop           => .down
  | .restart        => .flushed
  | .hubClear       => .flushed

/-- R100: the transaction of the open exchange or of the pending answer, if it is not an orphan. -/
def Port.ownTag (x : Port) : Option Tag :=
  match x.exchange with
  | some e => if e.hasResult then some e.tag else none
  | none   => x.pendingAnswer.bind PendingAnswer.link

/-- R100: the transactions of flushed pieces, in the order of their first pieces. -/
def linkedTags (queue : List Piece) : List Tag := (queue.filterMap Piece.link).eraseDups

/-- R100: the notice for a transaction with flushed pieces. -/
def Port.queuedNotice (x : Port) (why : FlushCause) (t : Tag) : Notice :=
  { tag := t, outcome := why.queuedOutcome
    isPartial := startedBefore t x.onWire (x.queue.filter (Piece.linkedTo t)) }

/-- R100, R119: the notices of a flush, the open exchange's first; its pieces had all been sent. A
hub clear makes none. -/
def Port.notices (x : Port) (why : FlushCause) : List Notice :=
  if why = .hubClear then []
  else (x.ownTag.map fun t => { tag := t, outcome := why.ownOutcome, isPartial := true }).toList
    ++ (linkedTags x.queue).map (x.queuedNotice why)

/-- R79, R99, R100: the port after a flush: an empty queue, no exchange, no pending answer, no
answer timer, and limit state NONE. -/
def Port.flushed (x : Port) : Port :=
  { x with queue := [], pendingAnswer := none, exchange := none, answerTimer := none, limit := none
           counts := x.counts.flushed x.queue.length }

/-! ### Clearing (R101 to R103) -/

/-- R10: the port starts a seize; nothing is received, and the receiver rests (R24). -/
def Port.startSeize (x : Port) : Port :=
  { x with seize := some Config.seizeInterval, tx := .idle, rx := .resting }

/-- R101: on entering CLEARING a PASS being sent goes on to its end (DEDUCED, assumption log 9);
otherwise the port seizes when the tile holds the link and sends CLEAR at once when the hub does. -/
def Port.settleLink (x : Port) : Port :=
  match x.holder, x.tx with
  | .tile, _           => x.startSeize
  | .hub, .passAnswer  => x
  | .hub, .passWatch   => x
  | .hub, .idle        => { x with tx := .clear }
  | .hub, .piece _     => { x with tx := .clear }
  | .hub, .clear       => { x with tx := .clear }

/-- R101: the port enters CLEARING. -/
def Port.enterClearing (x : Port) (dest : Destination) : Port :=
  ({ x with phase := .clearing dest }).settleLink

/-- Whether the port is CLEARING. -/
def Port.isClearing (x : Port) : Bool :=
  match x.phase with
  | .clearing _ => true
  | .ready | .sending | .waiting | .watching | .down _ => false

/-- R104 to R107, R110: a port already CLEARING continues its clearing toward `dest`; any other
enters CLEARING. -/
def Port.clearToward (x : Port) (dest : Destination) : Port :=
  if x.isClearing then { x with phase := .clearing dest } else x.enterClearing dest

/-- R101: the PASS that a clearing let go to its end has been sent: the tile holds the link, and the
seize starts. -/
def Port.passEndedInClearing (x : Port) : Port := ({ x with holder := .tile }).startSeize

/-- R10: the seize completes: the hub holds the link, and CLEAR is sent at once (R102). A tile that
still drives is a TILE_COLLISION of its own (DEDUCED, assumption log 10). -/
def Port.seizeCompleted (x : Port) : Port := { x with seize := none, holder := .hub, tx := .clear }

/-- R103: port `p` goes DOWN: PORT-DOWN is requested, the sync groups are told, and an owed STOP is
answered, in this order. -/
def State.goDown (s : State) (p : PortId) (cause : Cause) : State :=
  let x := s.port p
  let told := ((s.setPort p { x with phase := .down cause, tx := .idle }).emit (.portDown p cause)).memberDown p
  if x.owed = .stop then
    (told.setPort p { told.port p with owed := .none }).deferredDone cause.code
  else told

/-- R102: an owed RESTART is answered when the CLEAR has been sent, with the destination. -/
def State.answerRestart (s : State) (p : PortId) (dest : Destination) : State :=
  if (s.port p).owed = .restart then
    (s.setPort p { s.port p with owed := .none }).deferredDone dest.code
  else s

/-- R102: after its CLEAR the port goes to its destination. -/
def State.arrive (s : State) (p : PortId) (dest : Destination) : State :=
  match dest with
  | .ready      => (s.setPort p { s.port p with phase := .ready, tx := .idle }).judgePort p
  | .down cause => s.goDown p cause

/-! ### Failures (R99) -/

/-- R89: one more failure in a row, staying at 7. -/
def Port.nextFailures (x : Port) : Nat := min (x.failures + 1) Config.maxFailureCount

/-- R99: the destination of a failure. -/
def Port.failureDest (x : Port) : Destination :=
  match x.phase with
  | .clearing (.down c) => .down c
  | .clearing .ready | .ready | .sending | .waiting | .watching | .down _ =>
      if x.failureLimit ≤ x.nextFailures then .down .failed else .ready

/-- R100: the flush row of a failure. -/
def Destination.flushCause : Destination → FlushCause
  | .ready  => .failureToReady
  | .down _ => .failureToDown

/-- R99: the port after a failure: counted, flushed, and CLEARING with a seize, since the tile holds
the link. -/
def Port.failed (x : Port) : Port :=
  ({ x.flushed with failures := x.nextFailures, counts := (x.flushed).counts.failure }).enterClearing
    x.failureDest

/-- Hands the notices of a flush of port `p` to the transaction table, in their order (R100). -/
def State.handNotices (s : State) (p : PortId) (notices : List Notice) : State :=
  notices.foldl (State.takeNotice p) s

/-- R99: a failure of port `p`; `cause` is what the failing event itself does to the port, which has
the tile as holder then. The notices are those of the port as the event found it. -/
def State.failPort (s : State) (p : PortId) (cause : Port → Port) : State :=
  let x := s.port p
  (s.setPort p (cause x).failed).handNotices p (x.notices x.failureDest.flushCause)

/-! ### Stop, restart and hub clear (R105 to R107, R110) -/

/-- R105: PORT-STOP on a live port. -/
def Port.stopped (x : Port) : Port :=
  { x.flushed.clearToward (.down .stopped) with owed := .stop }

/-- R105: PORT-STOP reaches port `p`, which is not DOWN. -/
def State.stopPort (s : State) (p : PortId) : State :=
  let x := s.port p
  if x.live then (s.setPort p x.stopped).handNotices p (x.notices .stop)
  else s.setPort p { x with owed := .stop }

/-- R106: PORT-RESTART on a port out of service or on its way out. -/
def Port.revived (x : Port) : Port :=
  { x.clearToward .ready with failures := 0, owed := .restart }

/-- R107: PORT-RESTART on a live port. -/
def Port.restarted (x : Port) : Port := { x.flushed.clearToward .ready with owed := .restart }

/-- R106, R107: PORT-RESTART reaches port `p`. -/
def State.restartPort (s : State) (p : PortId) : State :=
  let x := s.port p
  if x.live then (s.setPort p x.restarted).handNotices p (x.notices .restart)
  else s.setPort p x.revived

/-- R110: a hub clear reaches a port. -/
def Port.hubCleared (x : Port) : Port :=
  if x.live then { x.flushed.clearToward .ready with owed := .none } else { x with owed := .none }

end Sys2Proof.Machine
end

