-- ==== Sys2Proof/Machine/Slicer.lean ====
section
/-! DEFINITION. The slicer (Chapter 4): it keeps nothing, and forms the pieces of one packet for
each live member that is to receive anything. -/

namespace Sys2Proof.Machine

/-- The pieces of one packet for one port. -/
structure PortPieces where
  port   : PortId
  pieces : List Piece
  deriving DecidableEq, Repr

/-! ### Lines and frame starts (R71 to R73) -/

/-- R71: the first column that a line and a window have in common. -/
def Window.lowColumn (w : Window) (column : Nat) : Nat := max column w.firstColumn

/-- R71: the column just past the last that a line of `n` pixels and a window have in common. -/
def Window.highColumn (w : Window) (column n : Nat) : Nat := min (column + n) (w.firstColumn + w.width)

/-- R71: whether a line of `n` pixels meets the window. -/
def Window.meets (w : Window) (line column n : Nat) : Bool :=
  decide (w.firstLine ≤ line ∧ line < w.firstLine + w.height
    ∧ w.lowColumn column < w.highColumn column n)

/-- R71: the payload bytes of the pixels that fall in the window, each copied whole. -/
def Window.cutLine (w : Window) (pixelSize column n : Nat) (payload : List Byte) : List Byte :=
  (payload.drop ((w.lowColumn column - column) * pixelSize)).take
    ((w.highColumn column n - w.lowColumn column) * pixelSize)

/-- A piece without answer, link or place, as the pixel path and the LIMIT use it (R70). -/
def plainPiece (kind : PieceKind) (outStream : Nat) (position : Option Position)
    (payload : List Byte) : Piece :=
  { kind := kind, outStream := outStream, tag := 0, ackRequest := false, position := position
    payload := payload, answerRequired := false, returnLimit := none, place := none, link := none }

/-- R71: the slice of a line for a window that it meets. -/
def linePiece (outStream pixelSize : Nat) (w : Window) (h : Header) (payload : List Byte) : Piece :=
  plainPiece .line outStream
    (some { line := h.line - w.firstLine, column := w.lowColumn h.column - w.firstColumn })
    (w.cutLine pixelSize h.column (h.length / pixelSize) payload)

/-- R71: the slice of a line for one port, when its window meets the line. -/
def lineFor (outStream pixelSize : Nat) (windows : Vector (Option Window) 4) (h : Header)
    (payload : List Byte) (p : PortId) : Option PortPieces :=
  match windows[p] with
  | some w =>
    if w.meets h.line h.column (h.length / pixelSize) then
      some { port := p, pieces := [linePiece outStream pixelSize w h payload] }
    else none
  | none => none

/-- R73: the frame start for one port. -/
def frameStartFor (outStream : Nat) (p : PortId) : PortPieces :=
  { port := p, pieces := [plainPiece .frameStart outStream none []] }

/-! ### Writes (R74 to R76) -/

/-- R75: the number of pieces of a WRITE of `len` bytes, more than the piece size `size`: its
`len - 1` parameter bytes in runs of `size - 1`, rounded up. -/
def splitCount (len size : Nat) : Nat := ((len - 1) + (size - 1) - 1) / (size - 1)

/-- R75: the continuation opcode of the pair with this lead. -/
def continuationOf (pairs : List SplitPair) (opcode : Byte) : Byte :=
  match pairs.find? fun x => x.lead == opcode with
  | some x => x.continuation
  | none   => opcode

/-- R74 to R76: a WRITE piece; only the last piece of an acknowledged WRITE asks for an answer. -/
def writePiece (outStream : Nat) (h : Header) (index count : Nat) (payload : List Byte) : Piece :=
  { kind := .write, outStream := outStream, tag := h.tag
    ackRequest := h.ackRequest && index == count
    position := none, payload := payload
    answerRequired := h.ackRequest && index == count
    returnLimit := none, place := some { index := index, count := count }, link := none }

/-- R75: run `k`, counted from 0, of the parameter bytes. -/
def parameterRun (size : Nat) (parameters : List Byte) (k : Nat) : List Byte :=
  (parameters.drop (k * (size - 1))).take (size - 1)

/-- R75: the payload of piece `k`, counted from 0: the lead opcode opens the first piece, the
continuation opcode every later one. -/
def splitPayload (size : Nat) (pairs : List SplitPair) (payload : List Byte) (k : Nat) : List Byte :=
  (if k = 0 then payload.headD 0 else continuationOf pairs (payload.headD 0))
    :: parameterRun size payload.tail k

/-- R74, R75: the pieces of a WRITE. -/
def writePieces (outStream size : Nat) (pairs : List SplitPair) (h : Header) (payload : List Byte) :
    List Piece :=
  if payload.length ≤ size then [writePiece outStream h 1 1 payload]
  else
    let count := splitCount payload.length size
    (List.range count).map fun k =>
      writePiece outStream h (k + 1) count (splitPayload size pairs payload k)

/-! ### Reads (R77, R78) -/

/-- R77: the READ piece. -/
def readPiece (outStream returnLimit : Nat) (h : Header) (payload : List Byte) : Piece :=
  { kind := .read, outStream := outStream, tag := h.tag, ackRequest := false, position := none
    payload := payload, answerRequired := true, returnLimit := some returnLimit, place := none
    link := none }

/-- R78: the LIMIT piece: the Return limit in 2 bytes. -/
def limitPiece (outStream returnLimit : Nat) : Piece :=
  plainPiece .limit outStream none (bytes2 returnLimit)

/-- R77, R78: the pieces of a READ: a LIMIT goes first when the limit state differs. -/
def readPieces (outStream returnLimit : Nat) (limit : Option Nat) (h : Header)
    (payload : List Byte) : List Piece :=
  if limit = some returnLimit then [readPiece outStream returnLimit h payload]
  else [limitPiece outStream returnLimit, readPiece outStream returnLimit h payload]

/-! ### The four kinds of packet (R69) -/

/-- The packet kinds that pass the slicer. -/
inductive StreamKind where
  | frameStart | line | write | read
  deriving DecidableEq, Repr

/-- R69: the pieces of a packet, for the live members that receive any, in ascending port order. The
limit states are those of the ports. A kind that does not fit the class has been refused (R52). -/
def slicePacket (kind : StreamKind) (h : Header) (payload : List Byte) (outStream : Nat)
    (fields : EntryClass) (live : List PortId) (limitOf : PortId → Option Nat) : List PortPieces :=
  match kind, fields with
  | .frameStart, .pixel _ _          => live.map (frameStartFor outStream)
  | .line, .pixel size windows       => live.filterMap (lineFor outStream size windows h payload)
  | .write, .command size _ pairs    =>
      live.map fun p => { port := p, pieces := writePieces outStream size pairs h payload }
  | .read, .command _ returnLimit _  =>
      live.map fun p =>
        { port := p, pieces := readPieces outStream returnLimit (limitOf p) h payload }
  | _, _ => []

end Sys2Proof.Machine
end

