-- ==== Sys2Proof/Machine/Ingress.lean ====
section
/-! DEFINITION. Ingress and admission (Chapter 3): failed-payload notices, the ordered checks of R49,
refusals, and admission with all its effects at one event. -/

namespace Sys2Proof.Machine

/-! ### Refusals (R62, R63) -/

/-- R63: the refusal REPORT of a tagged request takes a free shared slot or is lost. -/
def State.reportRefusal (s : State) (h : Header) (kind : RequestKind) (reason : RefusalReason) :
    State :=
  s.withRet (s.ret.request (refusalEntry h.tag h.stream kind reason) ReturnCounts.reportLost)

/-- R62: one more refused packet on a stream. -/
def StreamCounts.refuse (c : StreamCounts) : StreamCounts := { c with refused := bump c.refused }
/-- R59: one more admitted packet on a stream. -/
def StreamCounts.accept (c : StreamCounts) : StreamCounts := { c with admitted := bump c.admitted }
/-- R56: one more unmapped line on a stream. -/
def StreamCounts.unmap (c : StreamCounts) : StreamCounts :=
  { c with unmappedLines := bump c.unmappedLines }

/-- R62: a refusal is counted on its stream and its reason; a tagged request is also reported. -/
def State.refuse (s : State) (h : Header) (tagged : Option RequestKind) (reason : RefusalReason) :
    State :=
  let counted := (s.countStream h.stream StreamCounts.refuse).countRefusal reason
  match tagged with
  | some kind => counted.reportRefusal h kind reason
  | none      => counted

/-! ### Kinds (R49) -/

/-- The packet kinds that the host may send. -/
inductive HostKind where
  | stream (kind : StreamKind) | mgmt
  deriving DecidableEq, Repr

/-- R49 step 1: the kinds that are no kind error. -/
def hostKind (b : Byte) : Option HostKind :=
  match kindOfByte b with
  | some .frameStart => some (.stream .frameStart)
  | some .line       => some (.stream .line)
  | some .write      => some (.stream .write)
  | some .read       => some (.stream .read)
  | some .mgmt       => some .mgmt
  | _                => none

/-- R49: a tagged request is a READ, or a WRITE whose Ack-request is set. -/
def StreamKind.tagged (kind : StreamKind) (h : Header) : Option RequestKind :=
  match kind with
  | .read       => some .read
  | .write      => if h.ackRequest then some .write else none
  | .frameStart => none
  | .line       => none

/-- R50: a kind error is counted and the packet discarded. -/
def State.kindError (s : State) : State :=
  s.countUpstream fun c => { c with kindErrors := bump c.kindErrors }

/-! ### Management replies made by ingress (R48, R51) -/

/-- A MGMT-REPLY of ingress: it takes a free shared slot, or is lost as a discarded MGMT. -/
def State.ingressReply (s : State) (tag : Tag) (code : Byte) (status : Status) : State :=
  s.withRet (s.ret.request (mgmtReplyEntry tag code status []) ReturnCounts.mgmtLost)

/-- R51: a MGMT on stream 31: a payload of 1..64 bytes goes to the agent, any other is answered
BAD-ARG. -/
def State.takeMgmt (s : State) (h : Header) (payload : List Byte) : State :=
  if 1 ≤ h.length ∧ h.length ≤ Config.maxMgmtLength then
    s.offerCommand { tag := h.tag, payload := payload }
  else s.ingressReply h.tag (commandCode payload) .badArg

/-- R48: a failed-payload notice. -/
def State.failedPayload (s : State) (h : Header) : State :=
  match hostKind h.kind with
  | some .mgmt =>
    if h.stream = Config.managementStream then s.ingressReply h.tag 0 .badCheck else s
  | some (.stream kind) =>
    if h.stream = Config.managementStream then s
    else match kind.tagged h with
      | some request => s.refuse h (some request) .payloadCheck
      | none         => s
  | none => s

/-! ### The pending commit (R40, R42) -/

/-- R40: the whole staged bank becomes the active bank, and no commit is pending. -/
def StreamTable.commitStaged (x : StreamTable) : StreamTable :=
  { x with active := x.staged, commit := .none }

/-- The active entry of a stream id; an id without an entry reads as OFF (no lookup names one). -/
def StreamTable.lookup (x : StreamTable) (stream : Nat) : StreamEntry :=
  (x.active[stream]?).getD .off

/-- Whether an entry is ON and of class PIXEL. -/
def StreamEntry.isPixel : StreamEntry → Bool
  | .on _ _ (.pixel _ _)     => true
  | .on _ _ (.command _ _ _) => false
  | .off                     => false

/-- R40: whether a packet on streams 0..30 takes the pending commit. -/
def StreamTable.qualifies (x : StreamTable) (kind : StreamKind) (h : Header) : Bool :=
  kind == .frameStart && h.length == 0 && x.commit == .pendingFrame
    && (x.lookup h.stream).isPixel

/-- R40, R42: a qualifying FRAME-START takes the commit, and COMMIT-DONE is requested. -/
def State.examineCommit (s : State) (kind : StreamKind) (h : Header) : State :=
  if s.table.qualifies kind h then
    (s.withTable s.table.commitStaged).emit (.commitDone h.stream)
  else s

/-! ### The checks (R49 steps 4 to 12) -/

/-- R52: whether a kind fits the class of an entry. -/
def StreamKind.fits (kind : StreamKind) (fields : EntryClass) : Bool :=
  match kind, fields with
  | .frameStart, .pixel _ _ => true
  | .line, .pixel _ _       => true
  | .write, .command _ _ _  => true
  | .read, .command _ _ _   => true
  | _, _                    => false

/-- R52 step 6: the shape of the payload. -/
def shapeRefusal (kind : StreamKind) (h : Header) (fields : EntryClass) : Option RefusalReason :=
  match kind with
  | .frameStart => if h.length = 0 then none else some .malformed
  | .line =>
    match fields with
    | .pixel size _ =>
      if h.length = 0 ∨ h.length % size ≠ 0 then some .malformed else none
    | .command _ _ _ => none
  | .write => if h.length = 0 then some .malformed else none
  | .read =>
    if h.length = 0 then some .malformed
    else if Config.maxReadLength < h.length then some .tooLong else none

/-- The number of members of an entry. -/
def memberCount (members : PortSet) : Nat := (PortSet.toList members).length

/-- R54 step 8: a READ on an entry with more than one member. -/
def isMultiRead (kind : StreamKind) (members : PortSet) : Bool :=
  kind == .read && decide (1 < memberCount members)

/-- R55 step 9: a WRITE longer than the Piece size whose opcode is no split lead. -/
def isTooLongWrite (kind : StreamKind) (h : Header) (payload : List Byte) (fields : EntryClass) :
    Bool :=
  match kind, fields with
  | .write, .command size _ pairs =>
    decide (size < h.length) && !pairs.any fun x => x.lead == payload.headD 0
  | _, _ => false

/-- R49 steps 5 to 9, on an ON entry: the reason of the first that fails. -/
def headRefusal (kind : StreamKind) (h : Header) (payload : List Byte) (members : PortSet)
    (fields : EntryClass) (tagHeld : Bool) : Option RefusalReason :=
  if kind.fits fields = false then some .classMismatch
  else match shapeRefusal kind h fields with
    | some reason => some reason
    | none =>
      if (kind.tagged h).isSome && tagHeld then some .tagBusy
      else if isMultiRead kind members then some .multiRead
      else if isTooLongWrite kind h payload fields then some .tooLong
      else none

/-- R58: whether the pieces for one target fit its queue, in number and in bytes. -/
def Port.hasRoom (x : Port) (pieces : List Piece) : Bool :=
  decide (pieces.length ≤ x.freePieces ∧ queueBytes pieces ≤ x.freeBytes)

/-- What a classification ends with (R49). -/
inductive Verdict where
  | refused (reason : RefusalReason)
  | unmapped
  | granted (members : PortSet) (targets : List PortPieces)
  deriving DecidableEq, Repr

/-- R49 steps 10 to 12, on the pieces the slicer formed. -/
def State.roomVerdict (s : State) (kind : StreamKind) (members : PortSet)
    (targets : List PortPieces) : Verdict :=
  if targets.isEmpty then
    if kind = .line then .unmapped else .refused .noPort
  else if targets.all fun x => (s.port x.port).hasRoom x.pieces then .granted members targets
  else .refused .noRoom

/-- R69: the pieces that the slicer forms in this state. -/
def State.sliceFor (s : State) (kind : StreamKind) (h : Header) (payload : List Byte)
    (members : PortSet) (outStream : Nat) (fields : EntryClass) : List PortPieces :=
  slicePacket kind h payload outStream fields
    ((PortSet.toList members).filter fun p => (s.port p).live) fun p => (s.port p).limit

/-- R49 steps 4 to 12: the verdict on a packet under the entry its lookup returned. -/
def State.verdict (s : State) (kind : StreamKind) (h : Header) (payload : List Byte)
    (entry : StreamEntry) : Verdict :=
  match entry with
  | .off => .refused .streamOff
  | .on members outStream fields =>
    match headRefusal kind h payload members fields (s.tagHeld h.tag) with
    | some reason => .refused reason
    | none => s.roomVerdict kind members (s.sliceFor kind h payload members outStream fields)

/-! ### Admission (R59 to R61) -/

/-- R61: the pieces of a tagged request carry a link to its transaction, but for the LIMIT. -/
def linkPiece (t : Tag) (x : Piece) : Piece :=
  match x.kind with
  | .limit => x
  | .frameStart | .line | .write | .read => { x with link := some t }

/-- R60: the Return limit that a LIMIT piece among these sets; its READ piece carries it. -/
def limitSetBy (pieces : List Piece) : Option Nat :=
  if pieces.any fun x => x.kind == .limit then pieces.findSome? Piece.returnLimit else none

/-- R59, R60: the pieces join a port's queue at the young end, and an admitted LIMIT sets the limit
state. -/
def Port.append (x : Port) (pieces : List Piece) : Port :=
  { x with queue := x.queue ++ pieces
           limit := (limitSetBy pieces).or x.limit }

/-- R59: the pieces of every target join their queues. -/
def State.appendAll (s : State) (targets : List PortPieces) : State :=
  targets.foldl (fun s x => s.setPort x.port ((s.port x.port).append x.pieces)) s

/-- The pieces of a target, linked when the request is tagged (R61). -/
def PortPieces.linked (tagged : Option RequestKind) (t : Tag) (x : PortPieces) : PortPieces :=
  match tagged with
  | some _ => { x with pieces := x.pieces.map (linkPiece t) }
  | none   => x

/-- R61: the transaction of an admitted tagged request. -/
def State.createTransaction (s : State) (h : Header) (kind : RequestKind) (members : PortSet)
    (targets : List PortId) : State :=
  s.setRecord h.tag
    (some (newTransaction kind h.stream s.txns.newDeadline members targets))

/-- R61: creates the transaction when the request is tagged. -/
def State.createFor (s : State) (h : Header) (tagged : Option RequestKind) (members : PortSet)
    (targets : List PortId) : State :=
  match tagged with
  | some kind => s.createTransaction h kind members targets
  | none      => s

/-- R59 to R61: admission, at one event. Each target in READY then judges what to do (R86). -/
def State.admitPacket (s : State) (h : Header) (tagged : Option RequestKind) (members : PortSet)
    (targets : List PortPieces) : State :=
  let appended := s.appendAll (targets.map (PortPieces.linked tagged h.tag))
  let created := appended.createFor h tagged members (targets.map PortPieces.port)
  (targets.map PortPieces.port).foldl State.judgePort
    (created.countStream h.stream StreamCounts.accept)

/-! ### Classification (R47, R49) -/

/-- R49: acts on a verdict. -/
def State.applyVerdict (s : State) (h : Header) (tagged : Option RequestKind) (v : Verdict) : State :=
  match v with
  | .refused reason          => s.refuse h tagged reason
  | .unmapped                => s.countStream h.stream StreamCounts.unmap
  | .granted members targets => s.admitPacket h tagged members targets

/-- R49 steps 4 to 13, after a pending commit has been examined (R40). -/
def State.classifyStream (s : State) (kind : StreamKind) (h : Header) (payload : List Byte) : State :=
  let t := s.examineCommit kind h
  t.applyVerdict h (kind.tagged h) (t.verdict kind h payload (t.table.lookup h.stream))

/-- R49: the classification of one good packet, one event at ingress (R47). -/
def State.classify (s : State) (h : Header) (payload : List Byte) : State :=
  match hostKind h.kind with
  | none => s.kindError
  | some .mgmt =>
    if h.stream = Config.managementStream then s.takeMgmt h payload else s.kindError
  | some (.stream kind) =>
    if h.stream = Config.managementStream then s.kindError else s.classifyStream kind h payload

end Sys2Proof.Machine
end

