-- ==== Sys2Proof/WellFormed.lean ====
section
/-! DEFINITION. When a command's operands are of the form the spec gives them. A port, a tag and a
group are in range by their types; what remains are the lengths of byte strings. No link can deliver
other operands; a command that carries them is not refused, and has the effect that assumption log 1
says. -/

namespace Sys2Proof

/-- R182: a header is ten bytes. -/
def headerFits (header : List Byte) : Bool :=
  header.length == Config.headerBytes

/-- R16, R182: a packet that needs a PACKET_ARRIVAL has 1..4096 payload bytes. -/
def payloadFits (payload : List Byte) : Bool :=
  1 ≤ payload.length && payload.length ≤ Config.maxLength

/-- R3: the data symbols of a packet that is not complete are fewer than the 10 header bytes, 4096
payload bytes and 2 check bytes of the longest packet. -/
def cutFits (cut : List Byte) : Bool :=
  cut.length < Config.headerBytes + Config.maxLength + 2

/-- R24: what a tile sends as one packet is ten header bytes and at most 4096 payload bytes. -/
def TilePacket.fits (packet : TilePacket) : Bool :=
  headerFits packet.header && packet.payload.length ≤ Config.maxLength

/-- A command whose operands have the form of Chapter 10. -/
def Instr.wellFormed : Instr → Bool
  | .upstreamBurstOpen cut  => cutFits cut
  | .headerArrival header   => headerFits header
  | .packetArrival payload _ => payloadFits payload
  | .upstreamBurstClose cut => cutFits cut
  | .replyArrival _ packet  => packet.fits
  | .faultArrival _ packet  => packet.fits
  | .tileBadPacket _ packet => packet.fits
  | .tileStrayPacket _ packet => packet.fits
  | .tileBurstOpen _ cut    => cutFits cut
  | .tileBurstClose _ cut   => cutFits cut
  | .reset | .strayDataSymbol _ | .hostPass | .hubClear | .upstreamTokenError _
  | .upstreamCollision | .roomSent | .entrySent | .returnTurnPassSent | .pieceSent _
  | .exchangeOpen _ | .watchOpen _ | .ackToken _ | .syncToken _ | .tilePass _
  | .tileTokenError _ _ | .tileStrayData _ _ | .tileCollision _ | .answerTimerExpiry _
  | .seizeComplete _ | .clearSent _ | .deadlineExpiry _ | .syncWindowExpiry _ | .info
  | .stageEntry | .stageOff | .stageCopy | .readEntry | .commitNow | .commitAtFrame
  | .commitCancel | .portSet | .portStop | .portRestart | .portRead | .syncSet | .syncRead
  | .returnSet | .tagRead | .countersRead | .countersClear | .unknownCommand => true

end Sys2Proof
end

