-- ==== Sys2Proof/Machine/Operands.lean ====
section
/-! DEFINITION. Every operand form of the commands: received headers and packets, and the argument
and result layouts of the management commands (R11, R24, R182, R185, R186). -/

namespace Sys2Proof.Machine

/-! ### Received headers (R11, R182) -/

/-- The fields of ten header bytes, whatever their check says. -/
def headerFields (b0 b1 b2 b3 b4 b5 b6 b7 b8 : Byte) : Header :=
  { kind       := b0
    stream     := b1.toNat / 8
    ackRequest := b1.toNat / 4 % 2 == 1
    tag        := Fin.ofNat 16 (b2.toNat / 16)
    line       := b2.toNat % 16 * 256 + b3.toNat
    column     := b4.toNat * 32 + b5.toNat / 8
    length     := b5.toNat % 8 * 16777216 + b6.toNat * 65536 + pair b7 b8 }

/-- R11: a received header is judged; a bad one gives nothing. It is bad when its check does not
match, its Length is above 4096, or a spare bit is set. -/
def judgeHeader (bytes : List Byte) : Option Header :=
  match bytes with
  | [b0, b1, b2, b3, b4, b5, b6, b7, b8, b9] =>
    let h := headerFields b0 b1 b2 b3 b4 b5 b6 b7 b8
    if crc8 [b0, b1, b2, b3, b4, b5, b6, b7, b8] = b9 ∧ h.length ≤ Config.maxLength
        ∧ b1.toNat % 4 = 0 then some h
    else none
  | _ => none

/-! ### Packets from a tile (R24) -/

/-- What the link makes of a packet from a tile. -/
inductive TileVerdict where
  | badHeader | badPacket | stray
  | reply (tag : Tag) (data : List Byte)
  | fault (tag : Tag) (word : Half)
  | incomplete
  deriving DecidableEq, Repr

/-- R24: the judgement of a good packet of Length `h.length`: a FAULT whose Length is not 2 and a
REPLY whose Length is 0 are bad packets, and any other kind is stray. -/
def judgeTileGood (h : Header) (payload : List Byte) : TileVerdict :=
  match kindOfByte h.kind, payload with
  | some .reply, []       => .badPacket
  | some .reply, d :: ds  => .reply h.tag (d :: ds)
  | some .fault, [b0, b1] => .fault h.tag (b0 ++ b1)
  | some .fault, _        => .badPacket
  | _, _                  => .stray

/-- R11, R24: the judgement of a packet from a tile. Bytes whose number is not the Length of a good
header are no whole packet (DESIGN CHOICE, assumption log 11). -/
def tileVerdict (x : TilePacket) : TileVerdict :=
  match judgeHeader x.header with
  | none => .badHeader
  | some h =>
    if x.payload.length ≠ h.length then .incomplete
    else if x.payload.isEmpty = false ∧ crc16 x.payload ≠ x.check then .badPacket
    else judgeTileGood h x.payload

/-! ### Tokens (R5, R6, R21) -/

/-- R6, R21: the token codes that are taken from the host while its link rests. -/
def hostMaySend (code : Byte) : Bool := code == tokenPass || code == tokenClear

/-- R6: the token codes that are taken from a tile while its link rests. -/
def tileMaySend (code : Byte) : Bool :=
  code == tokenPass || code == tokenAck || code == tokenSync

/-! ### The stream entry (R186) -/

/-- A window in 8 bytes. -/
def Window.encode (w : Window) : List Byte :=
  bytes2 w.firstColumn ++ bytes2 w.width ++ bytes2 w.firstLine ++ bytes2 w.height

/-- The windows of an entry, in ascending port order. -/
def encodeWindows (windows : Vector (Option Window) 4) : List Byte :=
  allPorts.flatMap fun p => (windows[p]).elim [] Window.encode

/-- A split pair in 2 bytes, lead opcode first. -/
def SplitPair.encode (x : SplitPair) : List Byte := [x.lead, x.continuation]

/-- An entry in the layout of R186; an OFF entry is the single byte 0. -/
def StreamEntry.encode : StreamEntry → List Byte
  | .off => [0]
  | .on members outStream (.pixel size windows) =>
    [1, 1, byte members.toNat, byte outStream, byte size] ++ encodeWindows windows
  | .on members outStream (.command size limit pairs) =>
    [1, 2, byte members.toNat, byte outStream] ++ bytes2 size ++ bytes2 limit
      ++ [byte pairs.length] ++ pairs.flatMap SplitPair.encode

/-- The Members bits 0..3 as a port set. -/
def portSetOf (b : Byte) : PortSet := b.truncate 4

/-- Whether bits 7..4, which name nothing, are all 0 (R185). -/
def highBitsClear (b : Byte) : Bool := b.toNat < 16

/-- R186: the length an offered entry must have by its own bytes; any Class byte but 1 and 2 gives 4
bytes. -/
def layoutLength (entry : List Byte) : Nat :=
  match (entry.getD 1 0).toNat with
  | 1 => 5 + 8 * memberCount (portSetOf (entry.getD 2 0))
  | 2 => 9 + 2 * (entry.getD 8 0).toNat
  | _ => 4

/-- R186: whether an offered entry has the right length; one whose State byte is 0 may also be that
single byte. -/
def entryLengthOk (entry : List Byte) : Bool :=
  entry.length == layoutLength entry || entry == [0]

/-- R27, R29: a window's ranges. -/
def Window.valid (w : Window) : Bool :=
  decide (w.firstColumn ≤ 8191 ∧ 1 ≤ w.width ∧ w.width ≤ 4096 ∧ w.firstLine ≤ 4095
    ∧ 1 ≤ w.height ∧ w.height ≤ 4096 ∧ w.firstColumn + w.width ≤ 8192
    ∧ w.firstLine + w.height ≤ 4096)

/-- R28, R29: no two pairs have the same lead opcode. -/
def leadsDistinct : List SplitPair → Bool
  | []      => true
  | x :: xs => xs.all (fun y => y.lead != x.lead) && leadsDistinct xs

/-- R29 conditions 4 and 5: the fields of a class. -/
def EntryClass.valid (members : PortSet) : EntryClass → Bool
  | .pixel size windows =>
    (size == 2 || size == 3 || size == 4)
      && allPorts.all fun p => match windows[p] with
          | some w => PortSet.has members p && w.valid
          | none   => !PortSet.has members p
  | .command size limit pairs =>
    decide (16 ≤ size ∧ size ≤ 1024 ∧ 1 ≤ limit ∧ limit ≤ 256 ∧ pairs.length ≤ 4)
      && leadsDistinct pairs

/-- R29: the conditions on an entry. -/
def StreamEntry.valid : StreamEntry → Bool
  | .off => true
  | .on members outStream fields =>
    members != 0 && decide (outStream ≤ 30) && fields.valid members

/-- A window read from 8 bytes. -/
def readWindow (bytes : List Byte) : Option Window :=
  match bytes with
  | [a, b, c, d, e, f, g, h] =>
    some { firstColumn := pair a b, width := pair c d, firstLine := pair e f, height := pair g h }
  | _ => none

/-- The window of port `p` in the windows part of an entry: those of the members below `p` stand
before it. -/
def windowAt (members : PortSet) (bytes : List Byte) (p : PortId) : Option Window :=
  if PortSet.has members p then
    let before := (PortSet.toList members).countP fun q => decide (q < p)
    readWindow ((bytes.drop (8 * before)).take 8)
  else none

/-- The split pairs in the pairs part of an entry, in their order. -/
def readPairs : List Byte → List SplitPair
  | lead :: continuation :: rest => { lead := lead, continuation := continuation } :: readPairs rest
  | [_] => []
  | []  => []

/-- The class fields of an offered entry, `none` for a Class byte that is neither 1 nor 2. -/
def readClass (entry : List Byte) : Option EntryClass :=
  match entry with
  | _ :: 1 :: members :: _ :: size :: windows =>
    some (.pixel size.toNat
      (forFour fun p => windowAt (portSetOf members) windows p))
  | _ :: 2 :: _ :: _ :: s1 :: s0 :: l1 :: l0 :: _ :: pairs =>
    some (.command (pair s1 s0) (pair l1 l0) (readPairs pairs))
  | _ => none

/-- R29, R186: an offered entry of the right length, judged: `none` is BAD-ENTRY. A State of 0 gives
OFF whatever follows; with State 1 the Class must be 1 or 2, Members bits 7..4 clear, and the entry
valid. -/
def judgeEntry (entry : List Byte) : Option StreamEntry :=
  match entry with
  | 0 :: _ => some .off
  | 1 :: _ :: members :: outStream :: _ =>
    match readClass entry with
    | some fields =>
      let offered := StreamEntry.on (portSetOf members) outStream.toNat fields
      if highBitsClear members && offered.valid then some offered else none
    | none => none
  | _ => none

/-! ### Arguments in range (R165 step 3) -/

/-- A port number 0..3. -/
def portArg (b : Byte) : Option PortId := if h : b.toNat < 4 then some ⟨b.toNat, h⟩ else none

/-- A group number 0..3. -/
def groupArg (b : Byte) : Option GroupId := if h : b.toNat < 4 then some ⟨b.toNat, h⟩ else none

/-- A tag 0..15. -/
def tagArg (b : Byte) : Option Tag := if h : b.toNat < 16 then some ⟨b.toNat, h⟩ else none

/-- A stream id 0..30. -/
def streamArg (b : Byte) : Option (Fin 31) :=
  if h : b.toNat < 31 then some ⟨b.toNat, h⟩ else none

/-- A bank: 0 ACTIVE, 1 STAGED; true is the active bank. -/
def bankArg (b : Byte) : Option Bool :=
  if b = 0 then some true else if b = 1 then some false else none

/-- A mode: 0 OFF, 1 ONCE, 2 REPEAT. -/
def modeArg (b : Byte) : Option GroupMode :=
  if b = 0 then some .off else if b = 1 then some .once else if b = 2 then some .repeating else none

/-- The settings of a PORT-SET. -/
structure PortSettings where
  port          : PortId
  answerTimeout : Nat
  failureLimit  : Nat
  deriving DecidableEq, Repr

/-- PORT-SET: port; answer timeout 10..50,000 µs; failure limit 1..7 (R169). -/
def portSetArgs (args : List Byte) : Option PortSettings :=
  match args with
  | [p, t1, t0, limit] =>
    match portArg p with
    | some port =>
      if 10 ≤ pair t1 t0 ∧ pair t1 t0 ≤ 50000 ∧ 1 ≤ limit.toNat ∧ limit.toNat ≤ 7 then
        some { port := port, answerTimeout := pair t1 t0, failureLimit := limit.toNat }
      else none
    | none => none
  | _ => none

/-- A command whose one argument byte is a port (R170, R171, R169). -/
def onePort (args : List Byte) : Option PortId :=
  match args with
  | [p] => portArg p
  | _   => none

/-- A command whose one argument byte is a group (R158). -/
def oneGroup (args : List Byte) : Option GroupId :=
  match args with
  | [g] => groupArg g
  | _   => none

/-- A command whose one argument byte is a tag (R174). -/
def oneTag (args : List Byte) : Option Tag :=
  match args with
  | [t] => tagArg t
  | _   => none

/-- A command whose one argument byte is a stream id 0..30 (R31). -/
def oneStream (args : List Byte) : Option (Fin 31) :=
  match args with
  | [b] => streamArg b
  | _   => none

/-- STAGE-ENTRY: a stream id 0..30 and an entry of the right length (R165, R186). -/
def stageEntryArgs (args : List Byte) : Option (Fin 31 × List Byte) :=
  match args with
  | b :: entry =>
    if entryLengthOk entry then (streamArg b).map fun id => (id, entry) else none
  | [] => none

/-- READ-ENTRY: a stream id 0..30 and a bank; true is the active bank (R33). -/
def readEntryArgs (args : List Byte) : Option (Fin 31 × Bool) :=
  match args with
  | [b, bank] =>
    match streamArg b, bankArg bank with
    | some id, some active => some (id, active)
    | _, _ => none
  | _ => none

/-- The settings of a SYNC-SET. -/
structure SyncSettings where
  group   : GroupId
  members : PortSet
  mode    : GroupMode
  window  : Nat
  deriving DecidableEq, Repr

/-- SYNC-SET: group; members with bits 7..4 clear; mode; window 1..65,535 µs (R157, R185). -/
def syncSetArgs (args : List Byte) : Option SyncSettings :=
  match args with
  | [g, members, mode, w1, w0] =>
    match groupArg g, modeArg mode with
    | some group, some m =>
      if highBitsClear members ∧ 1 ≤ pair w1 w0 then
        some { group := group, members := portSetOf members, mode := m, window := pair w1 w0 }
      else none
    | _, _ => none
  | _ => none

/-- The settings of a RETURN-SET. -/
structure ReturnSettings where
  budget     : Nat
  mask       : AttentionMask
  deadlineMs : Nat
  deriving DecidableEq, Repr

/-- The mask: bit 0 COMPLETION, bit 1 MGMT-REPLY, bit 2 EVENT, bit 3 LOST (R185). -/
def maskOf (b : Byte) : AttentionMask :=
  { completion := b.getLsbD 0, mgmtReply := b.getLsbD 1, event := b.getLsbD 2, lost := b.getLsbD 3 }

/-- RETURN-SET: budget 1..32; mask with bits 7..4 clear; deadline 0 or 1..1000 ms (R173). -/
def returnSetArgs (args : List Byte) : Option ReturnSettings :=
  match args with
  | [budget, mask, d1, d0] =>
    if 1 ≤ budget.toNat ∧ budget.toNat ≤ 32 ∧ highBitsClear mask ∧ pair d1 d0 ≤ 1000 then
      some { budget := budget.toNat, mask := maskOf mask, deadlineMs := pair d1 d0 }
    else none
  | _ => none

/-- A counter block by its kind and, for STREAM and PORT, its number (R175, R185). -/
inductive CounterBlock where
  | upstream | stream (n : Fin 31) | refusals | port (p : PortId) | ret | sync
  deriving DecidableEq, Repr

/-- The counter block that a kind and a number byte name; the number must be 0 for a block that
there is one of (R185). -/
def counterBlockArgs (args : List Byte) : Option CounterBlock :=
  match args with
  | [kind, n] =>
    match kind.toNat with
    | 1 => if n = 0 then some .upstream else none
    | 2 => (streamArg n).map .stream
    | 3 => if n = 0 then some .refusals else none
    | 4 => (portArg n).map .port
    | 5 => if n = 0 then some .ret else none
    | 6 => if n = 0 then some .sync else none
    | _ => none
  | _ => none

/-! ### Results (R185) -/

/-- The identity of the part (R167, R185). -/
def identity : List Byte := [0x54, 0x34, 1, 4, 31, 16, 64] ++ bytes2 Config.byteCapacity ++ [16]

/-- The destination byte of PORT-READ: 0 when absent. -/
def PortPhase.destCode : PortPhase → Byte
  | .clearing d => d.code
  | .ready | .sending | .waiting | .watching | .down _ => 0

/-- The cause byte of PORT-READ: 0 when absent. -/
def PortPhase.causeCode : PortPhase → Byte
  | .clearing (.down c) => c.code
  | .down c             => c.code
  | .clearing .ready | .ready | .sending | .waiting | .watching => 0

/-- The PORT-READ result, 12 bytes (R169, R185). -/
def Port.readResult (x : Port) : List Byte :=
  [x.phase.code, x.phase.destCode, x.phase.causeCode] ++ bytes2 x.answerTimeout
    ++ [byte x.failureLimit, byte x.queue.length] ++ bytes2 (queueBytes x.queue)
    ++ [byte x.failures] ++ bytes2 (x.limit.getD 0)

/-- The SYNC-READ result, 10 bytes (R158, R185). -/
def SyncGroup.readResult (x : SyncGroup) : List Byte :=
  [byte x.members.toNat, x.mode.code] ++ bytes2 x.window
    ++ [byte x.reported.toNat, byte (flagBit x.timer.isSome)] ++ bytes2 (x.timer.getD 0)
    ++ bytes2 x.roundNumber

/-- R185: the remaining time of an OPEN record's deadline in ms, rounded up; 0 when it has none or is
DONE. -/
def Transaction.deadlineMillis (x : Transaction) : Nat :=
  match x.state with
  | .opened => (x.deadline.getD 0 + (Config.microsPerMilli - 1)) / Config.microsPerMilli
  | .done   => 0

/-- The state code of a record (R185). -/
def RecordState.code : RecordState → Byte
  | .opened => 1
  | .done   => 2

/-- The state code of a port record (R185). -/
def PartState.code : PartState → Byte
  | .queued     => 0
  | .awaiting   => 1
  | .resolved _ => 2

/-- A port record of TAG-READ, 6 bytes (R185). -/
def PortRecord.readBytes (r : PortRecord) : List Byte :=
  [byte r.port, r.state.code, r.state.outcomeCode, r.flags] ++ r.wordBytes

/-- The TAG-READ result of a held tag, 8 + 6n bytes (R128, R185). -/
def Transaction.readResult (x : Transaction) : List Byte :=
  [x.state.code, x.kind.code, byte x.stream] ++ bytes2 x.deadlineMillis
    ++ bytes2 (x.data.elim 0 List.length) ++ [byte x.parts.length]
    ++ x.parts.flatMap PortRecord.readBytes

/-- The TAG-READ result; a free tag is the single byte 0 (R128, R185). -/
def tagResult (record : Option Transaction) : List Byte :=
  record.elim [0] Transaction.readResult

/-- The counts of the UPSTREAM block, in order (R185). -/
def UpstreamCounts.toList (c : UpstreamCounts) : List Count :=
  [c.headerErrors, c.payloadErrors, c.kindErrors, c.desyncBursts, c.truncatedPackets, c.tokenErrors,
   c.collisions, c.hubClears]

/-- The counts of a STREAM block, in order (R185). -/
def StreamCounts.toList (c : StreamCounts) : List Count := [c.admitted, c.refused, c.unmappedLines]

/-- The counts of a PORT block, in order (R185). -/
def PortCounts.toList (c : PortCounts) : List Count :=
  [c.piecesSent, c.bursts, c.exchanges, c.answerTimeouts, c.collisions, c.failures, c.strayAnswers,
   c.badChecks, c.flushedPieces]

/-- The counts of the RETURN block, in order (R185). -/
def ReturnCounts.toList (c : ReturnCounts) : List Count :=
  [c.reportsLost, c.eventsLost, c.mgmtDiscarded]

/-- The counts of the SYNC block, in order (R185). -/
def SyncBlock.countList (x : SyncBlock) : List Count :=
  (allGroups.flatMap fun g => [(x.groups[g]).rounds, (x.groups[g]).splits, (x.groups[g]).earlySyncs])
    ++ [x.unwatchedSyncs]

/-- Every count of a block, in the order of R185 (R176). -/
def State.countsOf (s : State) : CounterBlock → List Count
  | .upstream => s.upstream.counts.toList
  | .stream n => (s.ingress.streams[n]).toList
  | .refusals => s.ingress.refusals.toList
  | .port p   => (s.port p).counts.toList
  | .ret      => s.ret.counts.toList
  | .sync     => s.sync.countList

/-- The counts of a block as bytes, 4 for each (R185). -/
def State.countBytes (s : State) (b : CounterBlock) : List Byte :=
  (s.countsOf b).flatMap fun c => bytes4 c.toNat

/-- A group with its counts 0 (R160). -/
def SyncGroup.countsZero (x : SyncGroup) : SyncGroup :=
  { x with rounds := 0, splits := 0, earlySyncs := 0 }

/-- R177: every count of the block is 0; nothing else changes. -/
def State.clearCounts (s : State) : CounterBlock → State
  | .upstream => s.countUpstream fun _ => .zero
  | .stream n =>
    s.withIngress
      { s.ingress with
        streams := s.ingress.streams.set n { admitted := 0, refused := 0, unmappedLines := 0 } }
  | .refusals => s.withIngress { s.ingress with refusals := Vector.replicate 9 0 }
  | .port p   => s.countPort p fun _ => .zero
  | .ret      =>
    s.withRet { s.ret with counts := { reportsLost := 0, eventsLost := 0, mgmtDiscarded := 0 } }
  | .sync     =>
    s.withSync { groups := forFour fun g => (s.sync.groups[g]).countsZero, unwatchedSyncs := 0 }

end Sys2Proof.Machine
end

