-- ==== Sys2Proof/Machine/UpstreamEvents.lean ====
section
/-! DEFINITION. The meanings of the rows of the reset input and the upstream link: what the host
sends, what the hub sends in a return turn, RESET and HUB_CLEAR (Chapters 1 and 7). A row that the
spec says cannot reach the hub in the present state leaves the state as it is (DESIGN CHOICE,
assumption log 4). -/

namespace Sys2Proof.Machine

/-! ### Receiving from the host (R15 to R21) -/

/-- Changes the receive state; no packet is in progress then. -/
def State.setRx (s : State) (rx : RxState) : State :=
  s.withUpstream { s.upstream with rx := rx, inProgress := none }

/-- R4: one more truncated packet. -/
def State.countTruncated (s : State) : State :=
  s.countUpstream fun c => { c with truncatedPackets := bump c.truncatedPackets }

/-- R4: the packet in progress is truncated, if there is one. Ingress gets a failed-payload notice
when its header was complete and good; R48 drops the notice unless the header names a tagged request
or a MGMT. -/
def State.truncatePacket (s : State) (cut : List Byte) : State :=
  match s.upstream.inProgress with
  | some h => s.countTruncated.failedPayload h
  | none   => if cut.isEmpty then s else s.countTruncated

/-- R15: a burst open, while the host holds the link. -/
def State.openHostBurst (s : State) (cut : List Byte) : State :=
  match s.upstream.direction, s.upstream.rx with
  | .follower, .inBurst => (s.truncatePacket cut).setRx .inBurst
  | .follower, .resting => s.setRx .inBurst
  | .follower, .desync  => s.setRx .inBurst
  | .holder, _          => s

/-- R19: a burst close, while the host holds the link. -/
def State.closeHostBurst (s : State) (cut : List Byte) : State :=
  match s.upstream.direction, s.upstream.rx with
  | .follower, .inBurst => (s.truncatePacket cut).setRx .resting
  | .follower, .desync  => s.setRx .resting
  | .follower, .resting => s
  | .holder, _          => s

/-- R16: a bad header: counted, and the rest of the burst is desynchronised. -/
def State.badHeader (s : State) : State :=
  (s.countUpstream fun c =>
    { c with headerErrors := bump c.headerErrors, desyncBursts := bump c.desyncBursts }).setRx .desync

/-- R16: a good header: with Length 0 its packet is complete at once and goes to ingress (R17), in the
same step (DEDUCED, assumption log 8). -/
def State.goodHeader (s : State) (h : Header) : State :=
  if h.length = 0 then s.classify h []
  else s.withUpstream { s.upstream with inProgress := some h }

/-- R11, R16: the judgement of the ten bytes of a header. -/
def State.takeHeader (s : State) (header : List Byte) : State :=
  match judgeHeader header with
  | some h => s.goodHeader h
  | none   => s.badHeader

/-- R16: the tenth byte of a header has arrived. Bytes of another number are no header arrival (DESIGN
CHOICE, assumption log 1). -/
def State.headerArrived (s : State) (header : List Byte) : State :=
  match s.upstream.direction, s.upstream.rx, s.upstream.inProgress with
  | .follower, .inBurst, none => if headerFits header then s.takeHeader header else s
  | _, _, _ => s

/-- R18: a failed payload check: counted, and ingress gets a notice. -/
def State.badPayload (s : State) (h : Header) : State :=
  (s.countUpstream fun c => { c with payloadErrors := bump c.payloadErrors }).failedPayload h

/-- R17, R18: the last check byte of a packet has arrived. -/
def State.payloadArrived (s : State) (h : Header) (payload : List Byte) (check : Half) : State :=
  if crc16 payload = check then (s.setRx .inBurst).classify h payload
  else (s.setRx .inBurst).badPayload h

/-- R17: completes the packet in progress, when the bytes are its whole payload. -/
def State.packetArrived (s : State) (payload : List Byte) (check : Half) : State :=
  match s.upstream.direction, s.upstream.rx, s.upstream.inProgress with
  | .follower, .inBurst, some h =>
    if payload.length = h.length then s.payloadArrived h payload check else s
  | _, _, _ => s

/-- R20: a data symbol outside any burst. -/
def State.strayHostData (s : State) : State :=
  match s.upstream.direction, s.upstream.rx with
  | .follower, .resting =>
    (s.countUpstream fun c => { c with desyncBursts := bump c.desyncBursts }).setRx .desync
  | _, _ => s

/-- R5, R6: one more token error on the upstream link. -/
def State.countTokenError (s : State) : State :=
  s.countUpstream fun c => { c with tokenErrors := bump c.tokenErrors }

/-- R21: a token from the host: taken in RESTING, a token error in IN-BURST and DESYNC. -/
def State.onHostToken (s : State) (act : State → State) : State :=
  match s.upstream.direction, s.upstream.rx with
  | .follower, .resting => act s
  | .follower, .inBurst => s.countTokenError
  | .follower, .desync  => s.countTokenError
  | .holder, _          => s

/-- R5, R6, R21: a token symbol of this code from the host is a token error. -/
def State.wrongHostToken (s : State) (code : Byte) : State :=
  s.onHostToken fun t => if hostMaySend code then t else t.countTokenError

/-! ### Hub clear (R21, R23, R45, R110, R129, R147, R159, R179) -/

/-- R110: the hub clear at the four ports. -/
def State.clearPorts (s : State) : State :=
  s.withPorts (forFour fun p => (s.port p).hubCleared)

/-- R129: every record is discarded; the transaction deadline is kept. -/
def TransactionTable.cleared (x : TransactionTable) : TransactionTable :=
  { x with records := Vector.replicate 16 none }

/-- R147: every entry is removed, every reservation released and the lost flag cleared; mask, budget
and counts are kept, and ATTNn is judged again. -/
def ReturnQueue.cleared (q : ReturnQueue) : ReturnQueue :=
  ({ q with entries := [], reserved := 0, lost := .clear }).judged

/-- R159: every group is OFF with an empty round. -/
def SyncBlock.cleared (x : SyncBlock) : SyncBlock :=
  { x with groups := forFour fun g => (x.groups[g]).cleared }

/-- The hub clear across every block. The upstream port keeps its direction and receive state (R23),
the banks and every count are kept (R45, R68, R175). -/
def State.hubCleared (s : State) : State :=
  ((((((s.countUpstream fun c => { c with hubClears := bump c.hubClears }).clearPorts).withTxns
    s.txns.cleared).withRet s.ret.cleared).withSync s.sync.cleared).withAgent
      { queue := [], inExecution := none }).withTable { s.table with commit := .none }

/-! ### Return turns (R8, R22, R138 to R142) -/

/-- R8: the host drives while the hub holds the link. -/
def State.hostCollision (s : State) : State :=
  match s.upstream.direction with
  | .holder   => (s.countUpstream fun c => { c with collisions := bump c.collisions }).endTurn
  | .follower => s

/-- What is on the wire of the upstream link, when the hub holds it. -/
def State.onTurn (s : State) (phase : TurnPhase) (f : Turn → State) : State :=
  match s.upstream.direction, s.upstream.turn with
  | .holder, some turn => if turn.phase = phase then f turn else s
  | _, _               => s

/-- R141: the entry at the head of the queue has been sent in full. -/
def State.headSent (s : State) (turn : Turn) : State :=
  match s.ret.entries with
  | e :: rest => s.entrySent turn e rest
  | []        => s

/-! ### The meanings -/

/-- RESET (R14, R46, R81, R130, R133, R148, R180, R187): every block stands in its reset state. The
model's own queue is no part of the hub and keeps its commands (DESIGN CHOICE, assumption log 7). -/
def execReset (s : State) : Host.Outcome State Fault Refusal :=
  .next (State.reset.withPending s.pending)

/-- UPSTREAM_BURST_OPEN (R15). -/
def execUpstreamBurstOpen (cut : List Byte) (s : State) : Host.Outcome State Fault Refusal :=
  .next (s.openHostBurst cut)

/-- HEADER_ARRIVAL (R16). -/
def execHeaderArrival (header : List Byte) (s : State) : Host.Outcome State Fault Refusal :=
  .next (s.headerArrived header)

/-- PACKET_ARRIVAL (R17, R18). -/
def execPacketArrival (payload : List Byte) (check : Half) (s : State) :
    Host.Outcome State Fault Refusal :=
  .next (s.packetArrived payload check)

/-- UPSTREAM_BURST_CLOSE (R19). -/
def execUpstreamBurstClose (cut : List Byte) (s : State) : Host.Outcome State Fault Refusal :=
  .next (s.closeHostBurst cut)

/-- STRAY_DATA_SYMBOL (R20): the symbol itself is discarded. -/
def execStrayDataSymbol (_symbol : Byte) (s : State) : Host.Outcome State Fault Refusal :=
  .next s.strayHostData

/-- HOST_PASS (R2, R21, R22, R139). -/
def execHostPass (s : State) : Host.Outcome State Fault Refusal :=
  .next (s.onHostToken State.startTurn)

/-- HUB_CLEAR (R21). -/
def execHubClear (s : State) : Host.Outcome State Fault Refusal :=
  .next (s.onHostToken State.hubCleared)

/-- UPSTREAM_TOKEN_ERROR (R5, R6, R21). -/
def execUpstreamTokenError (code : Byte) (s : State) : Host.Outcome State Fault Refusal :=
  .next (s.wrongHostToken code)

/-- UPSTREAM_COLLISION (R8, R142). -/
def execUpstreamCollision (s : State) : Host.Outcome State Fault Refusal :=
  .next s.hostCollision

/-- ROOM_SENT (R138, R140). -/
def execRoomSent (s : State) : Host.Outcome State Fault Refusal :=
  .next (s.onTurn .room s.roomSent)

/-- ENTRY_SENT (R127, R141). -/
def execEntrySent (s : State) : Host.Outcome State Fault Refusal :=
  .next (s.onTurn .entry s.headSent)

/-- RETURN_TURN_PASS_SENT (R2, R22). -/
def execReturnTurnPassSent (s : State) : Host.Outcome State Fault Refusal :=
  .next (s.onTurn .closing fun _ => s.endTurn)

end Sys2Proof.Machine
end

