-- ==== Sys2Proof/Machine/TileEvents.lean ====
section
/-! DEFINITION. The meanings of the rows of the tile links: what the hub has sent to a tile, and what
a tile sends or does (Chapters 1 and 5). A row that the spec says cannot reach the port in its
present state leaves the state as it is (DESIGN CHOICE,
assumption log 4). -/

namespace Sys2Proof.Machine

/-! ### What a port has sent (R87 to R90, R101, R102) -/

/-- R87, R88: port `p` has sent the piece at the head of its queue; a port that becomes READY judges
what to do. -/
def State.pieceSent (s : State) (p : PortId) : State :=
  match (s.port p).phase, (s.port p).tx, (s.port p).queue with
  | .sending, .piece _, sent :: rest =>
    (s.setPort p ((s.port p).afterPiece sent rest)).judgePort p
  | _, _, _ => s

/-- R90, R115: the exchange opens, and its port record becomes AWAITING unless it is an orphan. -/
def State.openExchange (s : State) (p : PortId) (a : PendingAnswer) : State :=
  let opened := s.setPort p ((s.port p).openExchange a)
  match a.link with
  | some t => opened.partAwaits t p
  | none   => opened

/-- R90, R101: the PASS after an answer-required piece has been sent. On a port that entered CLEARING
meanwhile, the seize starts. -/
def State.answerPassSent (s : State) (p : PortId) : State :=
  match (s.port p).phase, (s.port p).tx, (s.port p).pendingAnswer with
  | .sending, .passAnswer, some a   => s.openExchange p a
  | .clearing _, .passAnswer, _     => s.setPort p (s.port p).passEndedInClearing
  | _, _, _                         => s

/-- R90, R101, R109: the PASS for a watch has been sent. -/
def State.watchPassSent (s : State) (p : PortId) : State :=
  match (s.port p).phase, (s.port p).tx with
  | .ready, .passWatch      => s.setPort p (s.port p).openWatch
  | .clearing _, .passWatch => s.setPort p (s.port p).passEndedInClearing
  | _, _                    => s

/-- R102: the port's CLEAR has been sent in full. -/
def State.clearingDone (s : State) (p : PortId) : State :=
  match (s.port p).phase, (s.port p).tx with
  | .clearing dest, .clear => (s.answerRestart p dest).arrive p dest
  | _, _                   => s

/-! ### What a tile sends (R24, R91 to R95) -/

/-- Changes port `p` while its receiver is inside a tile burst (R24). -/
def State.inTileBurst (s : State) (p : PortId) (f : Port → Port) : State :=
  if (s.port p).receives && (s.port p).rx == .inBurst then s.setPort p (f (s.port p)) else s

/-- R24: changes port `p` by its judgement of a packet from the tile. Header bytes of another number than ten
are no packet, and nothing happens (DESIGN CHOICE, assumption log 1). -/
def State.onTilePacket (s : State) (p : PortId) (packet : TilePacket) (f : TileVerdict → Port → Port) :
    State :=
  if headerFits packet.header then s.inTileBurst p (f (tileVerdict packet)) else s

/-- R5, R24: a token from the tile: taken while its link rests, a token error inside a burst, and so in
DESYNC (DEDUCED, assumption log 12). -/
def State.onTileToken (s : State) (p : PortId) (act : State → State) : State :=
  if (s.port p).receives then
    match (s.port p).rx with
    | .resting => act s
    | .inBurst => s.setPort p (s.port p).takeStray
    | .desync  => s.setPort p (s.port p).takeStray
  else s

/-- R95: the tile's PASS ends the exchange. The port is READY and judges what to do. -/
def State.tilePassed (s : State) (p : PortId) : State :=
  match (s.port p).exchange with
  | some e => ((s.setPort p (s.port p).endExchange).handResult p e).judgePort p
  | none   => s

/-- R24: a bad header desynchronises the receiver; any other bad packet leaves its framing. -/
def Port.takeBadVerdict (v : TileVerdict) (x : Port) : Port :=
  match v with
  | .badHeader => { x.takeBad with rx := .desync }
  | .badPacket => x.takeBad
  | .stray | .reply _ _ | .fault _ _ | .incomplete => x

/-- R91: a REPLY; any other judgement is no REPLY_ARRIVAL. -/
def Port.takeReplyVerdict (v : TileVerdict) (x : Port) : Port :=
  match v with
  | .reply tag data => x.takeReply tag data
  | .badHeader | .badPacket | .stray | .fault _ _ | .incomplete => x

/-- R92: a FAULT; any other judgement is no FAULT_ARRIVAL. -/
def Port.takeFaultVerdict (v : TileVerdict) (x : Port) : Port :=
  match v with
  | .fault tag word => x.takeFault tag word
  | .badHeader | .badPacket | .stray | .reply _ _ | .incomplete => x

/-- R24: a stray packet; any other judgement is no TILE_STRAY_PACKET. -/
def Port.takeStrayVerdict (v : TileVerdict) (x : Port) : Port :=
  match v with
  | .stray => x.takeStray
  | .badHeader | .badPacket | .reply _ _ | .fault _ _ | .incomplete => x

/-- R4, R24: a burst open or close cuts a packet in progress short: one bad packet. -/
def Port.cutShort (x : Port) (cut : List Byte) : Port := if cut.isEmpty then x else x.takeBad

/-- R15, R24: a burst open from the tile. -/
def Port.openTileBurst (cut : List Byte) (x : Port) : Port :=
  match x.rx with
  | .inBurst => x.cutShort cut
  | .resting => { x with rx := .inBurst }
  | .desync  => { x with rx := .inBurst }

/-- R19, R24: a burst close from the tile. -/
def Port.closeTileBurst (cut : List Byte) (x : Port) : Port :=
  match x.rx with
  | .inBurst => { x.cutShort cut with rx := .resting }
  | .desync  => { x with rx := .resting }
  | .resting => x

/-- R24: a data symbol outside a burst desynchronises the receiver without a report. -/
def Port.takeStrayData (x : Port) : Port :=
  match x.rx with
  | .resting => { x with rx := .desync }
  | .inBurst => x
  | .desync  => x

/-- Changes port `p` while it receives from its tile (section 1.7). -/
def State.whileReceiving (s : State) (p : PortId) (f : Port → Port) : State :=
  if (s.port p).receives then s.setPort p (f (s.port p)) else s

/-! ### Collisions (R9, R98) -/

/-- R9: the hub stops driving and takes the tile to be the holder; the collision is counted. -/
def Port.collided (x : Port) : Port :=
  { x with holder := .tile, tx := .idle, counts := x.counts.collision }

/-- R9, R98: the tile drives while the hub holds the link, outside a seize: a failure, but in DOWN. -/
def State.tileCollided (s : State) (p : PortId) : State :=
  match (s.port p).holder, (s.port p).seize with
  | .hub, none =>
    if (s.port p).isDown then s.setPort p (s.port p).collided else s.failPort p Port.collided
  | _, _ => s

/-! ### The meanings -/

/-- PIECE_SENT (R87, R88). -/
def execPieceSent (p : PortId) (s : State) : Host.Outcome State Fault Refusal :=
  .next (s.pieceSent p)

/-- EXCHANGE_OPEN (R90). -/
def execExchangeOpen (p : PortId) (s : State) : Host.Outcome State Fault Refusal :=
  .next (s.answerPassSent p)

/-- WATCH_OPEN (R90, R109). -/
def execWatchOpen (p : PortId) (s : State) : Host.Outcome State Fault Refusal :=
  .next (s.watchPassSent p)

/-- REPLY_ARRIVAL (R91). -/
def execReplyArrival (p : PortId) (packet : TilePacket) (s : State) :
    Host.Outcome State Fault Refusal :=
  .next (s.onTilePacket p packet Port.takeReplyVerdict)

/-- FAULT_ARRIVAL (R92). -/
def execFaultArrival (p : PortId) (packet : TilePacket) (s : State) :
    Host.Outcome State Fault Refusal :=
  .next (s.onTilePacket p packet Port.takeFaultVerdict)

/-- ACK_TOKEN (R93). -/
def execAckToken (p : PortId) (s : State) : Host.Outcome State Fault Refusal :=
  .next (s.onTileToken p fun t => t.setPort p (t.port p).takeAck)

/-- SYNC_TOKEN (R93, R152). -/
def execSyncToken (p : PortId) (s : State) : Host.Outcome State Fault Refusal :=
  .next (s.onTileToken p fun t => t.takeSync p)

/-- TILE_PASS (R2, R95). -/
def execTilePass (p : PortId) (s : State) : Host.Outcome State Fault Refusal :=
  .next (s.onTileToken p fun t => t.tilePassed p)

/-- TILE_BAD_PACKET (R24, R94). -/
def execTileBadPacket (p : PortId) (packet : TilePacket) (s : State) :
    Host.Outcome State Fault Refusal :=
  .next (s.onTilePacket p packet Port.takeBadVerdict)

/-- TILE_STRAY_PACKET (R24). -/
def execTileStrayPacket (p : PortId) (packet : TilePacket) (s : State) :
    Host.Outcome State Fault Refusal :=
  .next (s.onTilePacket p packet Port.takeStrayVerdict)

/-- TILE_TOKEN_ERROR (R5, R6): a code that a tile may send is a token error inside a burst only. -/
def execTileTokenError (p : PortId) (code : Byte) (s : State) : Host.Outcome State Fault Refusal :=
  .next (s.onTileToken p fun t =>
    if tileMaySend code then t else t.setPort p (t.port p).takeStray)

/-- TILE_BURST_OPEN (R15, R24). -/
def execTileBurstOpen (p : PortId) (cut : List Byte) (s : State) :
    Host.Outcome State Fault Refusal :=
  .next (s.whileReceiving p (Port.openTileBurst cut))

/-- TILE_BURST_CLOSE (R19, R24). -/
def execTileBurstClose (p : PortId) (cut : List Byte) (s : State) :
    Host.Outcome State Fault Refusal :=
  .next (s.whileReceiving p (Port.closeTileBurst cut))

/-- TILE_STRAY_DATA (R24): the symbol itself is discarded. -/
def execTileStrayData (p : PortId) (_symbol : Byte) (s : State) : Host.Outcome State Fault Refusal :=
  .next (s.whileReceiving p Port.takeStrayData)

/-- TILE_COLLISION (R9, R98). -/
def execTileCollision (p : PortId) (s : State) : Host.Outcome State Fault Refusal :=
  .next (s.tileCollided p)

/-- CLEAR_SENT (R102, R103). -/
def execClearSent (p : PortId) (s : State) : Host.Outcome State Fault Refusal :=
  .next (s.clearingDone p)

end Sys2Proof.Machine
end

