-- ==== Sys2Proof/Machine/TimerEvents.lean ====
section
/-! DEFINITION. The meanings of the rows of the hub's timers (R10, R96, R121, R154), and the passing of
one microsecond, which is what a step does while no command waits (DESIGN CHOICE, assumption
log 5). -/

namespace Sys2Proof.Machine

/-! ### Expiries -/

/-- R96: the answer timer has run out: the expiry is counted and the timer stops. -/
def Port.timedOut (x : Port) : Port :=
  { x with answerTimer := none, counts := x.counts.answerTimeout }

/-- R96: the answer timer of a WAITING port expires: a failure. -/
def State.answerExpired (s : State) (p : PortId) : State :=
  match (s.port p).phase, (s.port p).answerTimer with
  | .waiting, some _ => s.failPort p Port.timedOut
  | _, _             => s

/-- R10: the seize interval of port `p` expires. -/
def State.seizeDone (s : State) (p : PortId) : State :=
  match (s.port p).seize with
  | some _ => s.setPort p (s.port p).seizeCompleted
  | none   => s

/-- R121: what a deadline expiry makes of one port record. -/
def PortRecord.expired (started : Bool) (r : PortRecord) : PortRecord :=
  match r.state with
  | .queued     => { r with state := .resolved .expired, isPartial := started }
  | .awaiting   => { r with state := .resolved .expired, isPartial := true }
  | .resolved _ => r

/-- R121: what a deadline expiry does to the port of a port record: a QUEUED one withdraws the pieces,
an AWAITING one has its exchange made an orphan. -/
def Port.expire (t : Tag) (r : PortRecord) (x : Port) : Port :=
  match r.state with
  | .queued     => x.withdraw t
  | .awaiting   => x.orphaned
  | .resolved _ => x

/-- R121: the ports after the expiry, record by record. -/
def State.expirePorts (s : State) (t : Tag) (parts : List PortRecord) : State :=
  parts.foldl (fun s r => s.setPort r.port ((s.port r.port).expire t r)) s

/-- R121: the deadline of an OPEN record expires, and the record completes. -/
def State.expireRecord (s : State) (t : Tag) (x : Transaction) : State :=
  (s.expirePorts t x.parts).complete t
    { x with parts := x.parts.map fun r => r.expired ((s.port r.port).hasStarted t) }

/-- R121: a record without a running deadline has no expiry. -/
def State.deadlineExpired (s : State) (t : Tag) : State :=
  s.onOpenRecord t fun x =>
    match x.deadline with
    | some _ => s.expireRecord t x
    | none   => s

/-- R154: a group whose timer does not run has no expiry. -/
def State.windowExpired (s : State) (g : GroupId) : State :=
  match (s.group g).timer with
  | some _ => s.splitRound g
  | none   => s

/-! ### The passing of one microsecond -/

/-- A timer after one more microsecond; a stopped one stays stopped. -/
def tickTimer (timer : Option Nat) : Option Nat := timer.map fun n => n - 1

/-- Whether this microsecond is the last of a running timer. -/
def lastTick (timer : Option Nat) : Bool := timer == some 1

/-- The timers of a port after one more microsecond. -/
def Port.tick (x : Port) : Port :=
  { x with seize := tickTimer x.seize, answerTimer := tickTimer x.answerTimer }

/-- The window timer of a group after one more microsecond. -/
def SyncGroup.tick (x : SyncGroup) : SyncGroup := { x with timer := tickTimer x.timer }

/-- The deadline of a record after one more microsecond. -/
def Transaction.tick (x : Transaction) : Transaction := { x with deadline := tickTimer x.deadline }

/-- The expiries that fall due with this microsecond, in a fixed order: seizes, answer timers, sync
windows, deadlines, each in ascending number. -/
def State.dueExpiries (s : State) : List Instr :=
  ((allPorts.filter fun p => lastTick (s.port p).seize).map .seizeComplete)
    ++ ((allPorts.filter fun p => lastTick (s.port p).answerTimer).map .answerTimerExpiry)
    ++ ((allGroups.filter fun g => lastTick (s.group g).timer).map .syncWindowExpiry)
    ++ ((allTags.filter fun t => (s.record t).any fun x => lastTick x.deadline).map .deadlineExpiry)

/-- One microsecond passes: every running timer counts down, and the expiries that fall due wait as
commands. -/
def State.tick (s : State) : State :=
  ((((s.withPorts (forFour fun p => (s.port p).tick)).withSync
      { s.sync with groups := forFour fun g => (s.group g).tick }).withTxns
        { s.txns with records := s.txns.records.map fun x => x.map Transaction.tick }).withPending
          (s.pending ++ s.dueExpiries))

/-! ### The meanings -/

/-- ANSWER_TIMER_EXPIRY (R96, R99). -/
def execAnswerTimerExpiry (p : PortId) (s : State) : Host.Outcome State Fault Refusal :=
  .next (s.answerExpired p)

/-- SEIZE_COMPLETE (R10, R102). -/
def execSeizeComplete (p : PortId) (s : State) : Host.Outcome State Fault Refusal :=
  .next (s.seizeDone p)

/-- DEADLINE_EXPIRY (R121). -/
def execDeadlineExpiry (t : Tag) (s : State) : Host.Outcome State Fault Refusal :=
  .next (s.deadlineExpired t)

/-- SYNC_WINDOW_EXPIRY (R154). -/
def execSyncWindowExpiry (g : GroupId) (s : State) : Host.Outcome State Fault Refusal :=
  .next (s.windowExpired g)

end Sys2Proof.Machine
end

