-- ==== Sys2Proof/Machine/ManagementCommands.lean ====
section
/-! DEFINITION. The meanings of the management rows (Chapter 9): the agent takes the oldest command of
its queue, judges it and carries it out. The arguments stand in the command's own bytes. A row whose
command is not the agent's next leaves the state as it is (DESIGN CHOICE,
assumption log 4). -/

namespace Sys2Proof.Machine

/-! ### Shapes of judgement (R165) -/

/-- Steps 2 and 3: arguments that do not have their length and ranges are answered BAD-ARG, and
nothing changes. -/
def withArgs {α : Type} (c : MgmtCommand) (args : Option α) (s : State) (run : α → State) : State :=
  match args with
  | some a => run a
  | none   => s.reply c .badArg []

/-- A command without arguments. -/
def noArgs (args : List Byte) : Option Unit := if args.isEmpty then some () else none

/-- R43: a command that may not change the banks while a commit is pending is answered BUSY. -/
def unlessPending (c : MgmtCommand) (s : State) (run : State) : State :=
  match s.table.commit with
  | .pendingFrame => s.reply c .busy []
  | .none         => run

/-! ### The stream table (R30 to R33, R37, R39, R44) -/

/-- R30: replaces a staged entry. -/
def StreamTable.stage (x : StreamTable) (id : Fin 31) (entry : StreamEntry) : StreamTable :=
  { x with staged := x.staged.set id entry }

/-- R30: STAGE-ENTRY after its argument check: BUSY, then BAD-ENTRY, then DONE. -/
def State.stageOffered (s : State) (c : MgmtCommand) (id : Fin 31) (entry : List Byte) : State :=
  unlessPending c s
    (match judgeEntry entry with
     | some e => (s.withTable (s.table.stage id e)).reply c .done []
     | none   => s.reply c .badEntry [])

/-- R33: the entry that READ-ENTRY returns. -/
def StreamTable.read (x : StreamTable) (id : Fin 31) (active : Bool) : StreamEntry :=
  if active then x.active[id] else x.staged[id]

/-- R37: COMMIT NOW copies the staged bank; the commit state stays NONE. -/
def runCommitNow (c : MgmtCommand) (s : State) : State :=
  withArgs c (if c.arguments = [0] then some () else none) s fun _ =>
    unlessPending c s ((s.withTable { s.table with active := s.table.staged }).reply c .done [])

/-- R39: COMMIT AT-FRAME. -/
def runCommitAtFrame (c : MgmtCommand) (s : State) : State :=
  withArgs c (if c.arguments = [1] then some () else none) s fun _ =>
    unlessPending c s ((s.withTable { s.table with commit := .pendingFrame }).reply c .pending [])

/-- R44: COMMIT-CANCEL. -/
def runCommitCancel (c : MgmtCommand) (s : State) : State :=
  withArgs c (noArgs c.arguments) s fun _ =>
    match s.table.commit with
    | .pendingFrame => (s.withTable { s.table with commit := .none }).reply c .done []
    | .none         => s.reply c .noCommit []

/-- R30: STAGE-ENTRY. -/
def runStageEntry (c : MgmtCommand) (s : State) : State :=
  withArgs c (stageEntryArgs c.arguments) s fun a => s.stageOffered c a.1 a.2

/-- R31: STAGE-OFF. -/
def runStageOff (c : MgmtCommand) (s : State) : State :=
  withArgs c (oneStream c.arguments) s fun id =>
    unlessPending c s ((s.withTable (s.table.stage id .off)).reply c .done [])

/-- R32: STAGE-COPY. -/
def runStageCopy (c : MgmtCommand) (s : State) : State :=
  withArgs c (noArgs c.arguments) s fun _ =>
    unlessPending c s ((s.withTable { s.table with staged := s.table.active }).reply c .done [])

/-- R33: READ-ENTRY, served in either commit state. -/
def runReadEntry (c : MgmtCommand) (s : State) : State :=
  withArgs c (readEntryArgs c.arguments) s fun a =>
    s.reply c .done (s.table.read a.1 a.2).encode

/-! ### The tile ports (R105 to R108, R169 to R171) -/

/-- R108: PORT-SET gives the port its new settings; nothing else of the port changes. -/
def Port.configured (x : Port) (a : PortSettings) : Port :=
  { x with answerTimeout := a.answerTimeout, failureLimit := a.failureLimit }

/-- R169: PORT-SET. -/
def runPortSet (c : MgmtCommand) (s : State) : State :=
  withArgs c (portSetArgs c.arguments) s fun a =>
    (s.setPort a.port ((s.port a.port).configured a)).reply c .done []

/-- R105, R170: PORT-STOP. A DOWN port is answered at once with its cause; any other stop becomes the
command in execution. -/
def State.stopCommand (s : State) (c : MgmtCommand) (p : PortId) : State :=
  match (s.port p).phase with
  | .down cause => s.reply c .done [cause.code]
  | .clearing _ | .ready | .sending | .waiting | .watching => (s.defer c).stopPort p

/-- R170: PORT-STOP. -/
def runPortStop (c : MgmtCommand) (s : State) : State :=
  withArgs c (onePort c.arguments) s (s.stopCommand c)

/-- R171: PORT-RESTART is always held. -/
def runPortRestart (c : MgmtCommand) (s : State) : State :=
  withArgs c (onePort c.arguments) s fun p => (s.defer c).restartPort p

/-- R169: PORT-READ. -/
def runPortRead (c : MgmtCommand) (s : State) : State :=
  withArgs c (onePort c.arguments) s fun p => s.reply c .done (s.port p).readResult

/-! ### The sync groups (R157, R158) -/

/-- R149: whether the offered members name a port of another group. -/
def State.takesMember (s : State) (a : SyncSettings) : Bool :=
  allGroups.any fun g => g != a.group && ((s.group g).members &&& a.members) != 0

/-- R157: the conditions of SYNC-SET beyond its ranges. -/
def State.syncSetBad (s : State) (a : SyncSettings) : Bool :=
  s.takesMember a || (a.mode != .off && a.members == 0)

/-- R157: the group with its new settings and an empty round; the round number and counts are
kept. -/
def SyncGroup.configured (x : SyncGroup) (a : SyncSettings) : SyncGroup :=
  { x.emptied with members := a.members, mode := a.mode, window := a.window }

/-- R157: the group takes the settings; an armed group without a present member goes OFF. -/
def State.setSyncGroup (s : State) (a : SyncSettings) : State :=
  let t := s.setGroup a.group ((s.group a.group).configured a)
  if (t.group a.group).armed && (t.presentMembers a.members).isEmpty then t.groupOff a.group else t

/-- R86, R150: a port whose watch wanted has changed since state `before` is told, and judges what to
do (DEDUCED, assumption log 13). -/
def State.tellWatch (before s : State) (p : PortId) : State :=
  if s.wanted p = before.wanted p then s else s.judgePort p

/-- R150: every port whose watch wanted has changed is told. -/
def State.tellWatches (s before : State) : State := allPorts.foldl before.tellWatch s

/-- R157, R172: SYNC-SET. The GROUP-OFF, if any, stands ahead of the reply. -/
def runSyncSet (c : MgmtCommand) (s : State) : State :=
  withArgs c (syncSetArgs c.arguments) s fun a =>
    if s.syncSetBad a then s.reply c .badArg []
    else ((s.setSyncGroup a).tellWatches s).reply c .done []

/-- R158: SYNC-READ. -/
def runSyncRead (c : MgmtCommand) (s : State) : State :=
  withArgs c (oneGroup c.arguments) s fun g => s.reply c .done (s.group g).readResult

/-! ### The return queue, the tags and the counters (R146, R173 to R177) -/

/-- R146: the mask and the budget take their new values, and ATTNn is judged again. -/
def ReturnQueue.configured (q : ReturnQueue) (a : ReturnSettings) : ReturnQueue :=
  ({ q with budget := a.budget, mask := a.mask }).judged

/-- R173: RETURN-SET. -/
def runReturnSet (c : MgmtCommand) (s : State) : State :=
  withArgs c (returnSetArgs c.arguments) s fun a =>
    ((s.withRet (s.ret.configured a)).withTxns { s.txns with deadlineMs := a.deadlineMs }).reply c
      .done []

/-- R128, R174: TAG-READ. -/
def runTagRead (c : MgmtCommand) (s : State) : State :=
  withArgs c (oneTag c.arguments) s fun t => s.reply c .done (tagResult (s.record t))

/-- R176: COUNTERS-READ. -/
def runCountersRead (c : MgmtCommand) (s : State) : State :=
  withArgs c (counterBlockArgs c.arguments) s fun b => s.reply c .done (s.countBytes b)

/-- R177: COUNTERS-CLEAR. -/
def runCountersClear (c : MgmtCommand) (s : State) : State :=
  withArgs c (counterBlockArgs c.arguments) s fun b => (s.clearCounts b).reply c .done []

/-! ### INFO and unknown codes (R165, R167) -/

/-- R167: INFO. -/
def runInfo (c : MgmtCommand) (s : State) : State :=
  withArgs c (noArgs c.arguments) s fun _ => s.reply c .done identity

/-- R165 step 1: a code that names no command. -/
def runUnknown (c : MgmtCommand) (s : State) : State := s.reply c .unknown []

/-! ### The meanings -/

/-- INFO (R167). -/
def execInfo (s : State) : Host.Outcome State Fault Refusal := .next (s.execute .info runInfo)

/-- STAGE_ENTRY (R30). -/
def execStageEntry (s : State) : Host.Outcome State Fault Refusal :=
  .next (s.execute .stageEntry runStageEntry)

/-- STAGE_OFF (R31). -/
def execStageOff (s : State) : Host.Outcome State Fault Refusal :=
  .next (s.execute .stageOff runStageOff)

/-- STAGE_COPY (R32). -/
def execStageCopy (s : State) : Host.Outcome State Fault Refusal :=
  .next (s.execute .stageCopy runStageCopy)

/-- READ_ENTRY (R33). -/
def execReadEntry (s : State) : Host.Outcome State Fault Refusal :=
  .next (s.execute .readEntry runReadEntry)

/-- COMMIT_NOW (R37). -/
def execCommitNow (s : State) : Host.Outcome State Fault Refusal :=
  .next (s.execute .commitNow runCommitNow)

/-- COMMIT_AT_FRAME (R39). -/
def execCommitAtFrame (s : State) : Host.Outcome State Fault Refusal :=
  .next (s.execute .commitAtFrame runCommitAtFrame)

/-- COMMIT_CANCEL (R44). -/
def execCommitCancel (s : State) : Host.Outcome State Fault Refusal :=
  .next (s.execute .commitCancel runCommitCancel)

/-- PORT_SET (R108). -/
def execPortSet (s : State) : Host.Outcome State Fault Refusal :=
  .next (s.execute .portSet runPortSet)

/-- PORT_STOP (R105, R170). -/
def execPortStop (s : State) : Host.Outcome State Fault Refusal :=
  .next (s.execute .portStop runPortStop)

/-- PORT_RESTART (R106, R107, R171). -/
def execPortRestart (s : State) : Host.Outcome State Fault Refusal :=
  .next (s.execute .portRestart runPortRestart)

/-- PORT_READ (R169). -/
def execPortRead (s : State) : Host.Outcome State Fault Refusal :=
  .next (s.execute .portRead runPortRead)

/-- SYNC_SET (R157). -/
def execSyncSet (s : State) : Host.Outcome State Fault Refusal :=
  .next (s.execute .syncSet runSyncSet)

/-- SYNC_READ (R158). -/
def execSyncRead (s : State) : Host.Outcome State Fault Refusal :=
  .next (s.execute .syncRead runSyncRead)

/-- RETURN_SET (R146, R173). -/
def execReturnSet (s : State) : Host.Outcome State Fault Refusal :=
  .next (s.execute .returnSet runReturnSet)

/-- TAG_READ (R128, R174). -/
def execTagRead (s : State) : Host.Outcome State Fault Refusal :=
  .next (s.execute .tagRead runTagRead)

/-- COUNTERS_READ (R176). -/
def execCountersRead (s : State) : Host.Outcome State Fault Refusal :=
  .next (s.execute .countersRead runCountersRead)

/-- COUNTERS_CLEAR (R177). -/
def execCountersClear (s : State) : Host.Outcome State Fault Refusal :=
  .next (s.execute .countersClear runCountersClear)

/-- UNKNOWN_COMMAND (R165). -/
def execUnknownCommand (s : State) : Host.Outcome State Fault Refusal :=
  .next (s.execute .unknown runUnknown)

end Sys2Proof.Machine
end

