-- ==== Sys2Proof/Machine/Dispatch.lean ====
section
/-! DEFINITION. One arm for each command: the call of its meaning. -/

namespace Sys2Proof.Machine

def exec (i : Instr) (s : State) : Host.Outcome State Fault Refusal :=
  match i with
  | .reset => Sys2Proof.Machine.execReset s
  | .upstreamBurstOpen cut => Sys2Proof.Machine.execUpstreamBurstOpen cut s
  | .headerArrival header => Sys2Proof.Machine.execHeaderArrival header s
  | .packetArrival payload check => Sys2Proof.Machine.execPacketArrival payload check s
  | .upstreamBurstClose cut => Sys2Proof.Machine.execUpstreamBurstClose cut s
  | .strayDataSymbol symbol => Sys2Proof.Machine.execStrayDataSymbol symbol s
  | .hostPass => Sys2Proof.Machine.execHostPass s
  | .hubClear => Sys2Proof.Machine.execHubClear s
  | .upstreamTokenError code => Sys2Proof.Machine.execUpstreamTokenError code s
  | .upstreamCollision => Sys2Proof.Machine.execUpstreamCollision s
  | .roomSent => Sys2Proof.Machine.execRoomSent s
  | .entrySent => Sys2Proof.Machine.execEntrySent s
  | .returnTurnPassSent => Sys2Proof.Machine.execReturnTurnPassSent s
  | .pieceSent p => Sys2Proof.Machine.execPieceSent p s
  | .exchangeOpen p => Sys2Proof.Machine.execExchangeOpen p s
  | .watchOpen p => Sys2Proof.Machine.execWatchOpen p s
  | .replyArrival p packet => Sys2Proof.Machine.execReplyArrival p packet s
  | .faultArrival p packet => Sys2Proof.Machine.execFaultArrival p packet s
  | .ackToken p => Sys2Proof.Machine.execAckToken p s
  | .syncToken p => Sys2Proof.Machine.execSyncToken p s
  | .tilePass p => Sys2Proof.Machine.execTilePass p s
  | .tileBadPacket p packet => Sys2Proof.Machine.execTileBadPacket p packet s
  | .tileStrayPacket p packet => Sys2Proof.Machine.execTileStrayPacket p packet s
  | .tileTokenError p code => Sys2Proof.Machine.execTileTokenError p code s
  | .tileBurstOpen p cut => Sys2Proof.Machine.execTileBurstOpen p cut s
  | .tileBurstClose p cut => Sys2Proof.Machine.execTileBurstClose p cut s
  | .tileStrayData p symbol => Sys2Proof.Machine.execTileStrayData p symbol s
  | .tileCollision p => Sys2Proof.Machine.execTileCollision p s
  | .answerTimerExpiry p => Sys2Proof.Machine.execAnswerTimerExpiry p s
  | .seizeComplete p => Sys2Proof.Machine.execSeizeComplete p s
  | .clearSent p => Sys2Proof.Machine.execClearSent p s
  | .deadlineExpiry t => Sys2Proof.Machine.execDeadlineExpiry t s
  | .syncWindowExpiry g => Sys2Proof.Machine.execSyncWindowExpiry g s
  | .info => Sys2Proof.Machine.execInfo s
  | .stageEntry => Sys2Proof.Machine.execStageEntry s
  | .stageOff => Sys2Proof.Machine.execStageOff s
  | .stageCopy => Sys2Proof.Machine.execStageCopy s
  | .readEntry => Sys2Proof.Machine.execReadEntry s
  | .commitNow => Sys2Proof.Machine.execCommitNow s
  | .commitAtFrame => Sys2Proof.Machine.execCommitAtFrame s
  | .commitCancel => Sys2Proof.Machine.execCommitCancel s
  | .portSet => Sys2Proof.Machine.execPortSet s
  | .portStop => Sys2Proof.Machine.execPortStop s
  | .portRestart => Sys2Proof.Machine.execPortRestart s
  | .portRead => Sys2Proof.Machine.execPortRead s
  | .syncSet => Sys2Proof.Machine.execSyncSet s
  | .syncRead => Sys2Proof.Machine.execSyncRead s
  | .returnSet => Sys2Proof.Machine.execReturnSet s
  | .tagRead => Sys2Proof.Machine.execTagRead s
  | .countersRead => Sys2Proof.Machine.execCountersRead s
  | .countersClear => Sys2Proof.Machine.execCountersClear s
  | .unknownCommand => Sys2Proof.Machine.execUnknownCommand s

end Sys2Proof.Machine
end

