-- ==== Sys2Proof/Machine/Step.lean ====
section
/-! DEFINITION. One step: the command at the front of the queue, or one microsecond when none waits. -/

namespace Sys2Proof.Machine

/-- A step takes the command that has waited longest and runs it with the rest of the queue. While no
command waits, one microsecond passes (DESIGN CHOICE, assumption logs 2 and 5). -/
def step (s : State) : Host.Outcome State Fault Refusal :=
  match s.pending with
  | []        => .next s.tick
  | c :: rest => exec c (s.withPending rest)

/-- The state with the command that a table word spells at the front of its queue; unchanged where
the word spells none. -/
def State.withFetchWord (s : State) (nbits w : Nat) : State :=
  match decodeTableWord nbits w with
  | some c => s.withPending (c :: s.pending)
  | none   => s

end Sys2Proof.Machine
end

