-- ==== Sys2Proof/Safety.lean ====
section
/-! DEFINITION. What it means for a state to be sound: the conditions that the spec's whole-machine
rules place on each block, in the terms that claims use. Every reachable state meets them; the
statements say that each step keeps them. -/

namespace Sys2Proof.Machine

/-! ### Who drives a link (R1) -/

/-- R1: the hub drives the upstream link exactly while it is the holder. -/
def State.drivesUpstream (s : State) : Bool := s.upstream.direction == .holder

/-- R1, R10: the hub drives a tile link while it holds it, or while it seizes it. -/
def Port.drives (x : Port) : Bool := x.holder == .hub || x.seize.isSome

/-- Whether the port transmits a packet or a token. -/
def Port.transmits (x : Port) : Bool := x.tx != .idle

/-! ### Tile ports (R81, R82, R88 to R90, R96, R101, R103) -/

/-- R81: no exchange, no pending answer and no answer timer. -/
def Port.noExchange (x : Port) : Bool :=
  x.exchange.isNone && x.pendingAnswer.isNone && x.answerTimer.isNone

/-- R101: a clearing port seizes while the tile holds the link; when the hub holds it, it sends CLEAR
or lets a PASS go to its end. -/
def Port.clearingLink (x : Port) : Bool :=
  match x.holder, x.seize, x.tx with
  | .tile, some _, .idle     => true
  | .hub, none, .clear       => true
  | .hub, none, .passAnswer  => true
  | .hub, none, .passWatch   => true
  | _, _, _                  => false

/-- R79, R103: a port out of service, or on its way out, has an empty queue and limit state NONE. -/
def Port.emptied (x : Port) : Bool := x.queue.isEmpty && x.limit.isNone

/-- R86: what a READY port may be doing: resting over an empty queue, or sending a PASS for a
watch. -/
def Port.readyLink (x : Port) : Bool :=
  match x.tx with
  | .idle       => x.queue.isEmpty
  | .passWatch  => true
  | .piece _    => false
  | .passAnswer => false
  | .clear      => false

/-- R83, R88: what a SENDING port is doing: the bytes of the piece at the head of its queue are on the
wire, or a pending answer, to a READ or a WRITE and never to a watch (R81), waits for its PASS. -/
def Port.sendingLink (x : Port) : Bool :=
  match x.tx, x.queue, x.pendingAnswer with
  | .piece wire, head :: _, none => wire == head.wire
  | .passAnswer, _, some a       => a.answers != .watch
  | _, _, _                      => false

/-- R81, R88 to R90: what each state of a port goes with. -/
def Port.fitsPhase (x : Port) : Bool :=
  match x.phase with
  | .clearing .ready => x.noExchange && x.clearingLink && x.owed != .stop && x.rx == .resting
  | .clearing (.down _) => x.noExchange && x.clearingLink && x.emptied && x.rx == .resting
  | .ready => x.noExchange && x.readyLink && x.holder == .hub && x.seize.isNone && x.owed == .none
      && x.rx == .resting
  | .sending => x.exchange.isNone && x.answerTimer.isNone && x.sendingLink && x.holder == .hub
      && x.seize.isNone && x.owed == .none && x.rx == .resting
  | .waiting => x.exchange.any (fun e => e.answers != .watch) && x.pendingAnswer.isNone
      && x.answerTimer.isSome && x.tx == .idle && x.holder == .tile && x.seize.isNone
      && x.owed == .none
  | .watching => x.exchange.any (fun e => e.answers == .watch) && x.pendingAnswer.isNone
      && x.answerTimer.isNone && x.tx == .idle && x.holder == .tile && x.seize.isNone
      && x.owed == .none
  | .down _ => x.noExchange && x.emptied && x.tx == .idle && x.seize.isNone && x.owed == .none
      && x.rx == .resting

/-- R81: the ranges of a port's numbers. -/
def Port.inRange (x : Port) : Bool :=
  decide (x.failures ≤ 7 ∧ 1 ≤ x.failureLimit ∧ x.failureLimit ≤ 7 ∧ 10 ≤ x.answerTimeout
    ∧ x.answerTimeout ≤ 50000)

/-- Every port goes with its state, and its numbers are in range. -/
abbrev State.portsSound (s : State) : Prop :=
  ∀ p : PortId, (s.port p).fitsPhase = true ∧ (s.port p).inRange = true

/-- R83: no egress queue holds more than 64 pieces or 8192 payload bytes. -/
abbrev State.queuesFit (s : State) : Prop :=
  ∀ p : PortId, (s.port p).queue.length ≤ Config.pieceCapacity
    ∧ queueBytes (s.port p).queue ≤ Config.byteCapacity

/-- R86: a READY port that sends nothing has nothing to send and is not wanted to watch. -/
abbrev State.noPortDawdles (s : State) : Prop :=
  ∀ p : PortId, (s.port p).phase = .ready → (s.port p).tx = .idle →
    (s.port p).queue = [] ∧ s.wanted p = false

/-! ### Stream table, sync groups (R25, R148, R149) -/

/-- R25: every entry of either bank meets the conditions of R29. -/
abbrev State.tableSound (s : State) : Prop :=
  ∀ i : Fin 31, s.table.active[i].valid = true ∧ s.table.staged[i].valid = true

/-- R148: the group's record keeps to its ranges, reports come from members, the timer runs exactly
while the round is not empty, and the round of an OFF group is empty. -/
def SyncGroup.sound (x : SyncGroup) : Bool :=
  (x.reported &&& ~~~x.members) == 0 && (x.timer.isSome == (x.reported != 0))
    && (x.armed || x.reported == 0) && decide (1 ≤ x.window ∧ x.window ≤ 65535)
    && decide (x.roundNumber < 65536)

/-- R148, R149: every group is sound, and a port is a member of at most one. -/
abbrev State.groupsSound (s : State) : Prop :=
  (∀ g : GroupId, (s.group g).sound = true)
    ∧ ∀ g k : GroupId, g ≠ k → (s.group g).members &&& (s.group k).members = 0

/-! ### The return queue and the upstream port (R22, R133, R135, R140, R141, R161) -/

/-- R133, R135, R161: the shared part never overflows; each reservation belongs to one accepted
command, waiting or in execution; at most four wait. -/
abbrev State.slotsSound (s : State) : Prop :=
  (s.ret.entries.countP fun e => e.slot == .shared) + s.ret.reserved ≤ Config.sharedSlots
    ∧ s.ret.reserved = s.agent.queue.length + s.agent.inExecution.toList.length
    ∧ s.agent.queue.length ≤ Config.commandQueueCapacity

/-- R185: the code of the command that a port owes a notice to: PORT-STOP or PORT-RESTART. -/
def Owed.commandCode : Owed → Byte
  | .none    => 0
  | .stop    => 0x09
  | .restart => 0x0A

/-- R81, R161, R164: a port owes a notice exactly while the agent holds the deferred command that named
the port. -/
abbrev State.noticesOwed (s : State) : Prop :=
  (∀ p : PortId, (s.port p).owed ≠ .none →
      s.agent.inExecution.any (fun c => c.payload == [(s.port p).owed.commandCode, byte p]) = true)
    ∧ (s.agent.inExecution.isSome = true → ∃ p : PortId, (s.port p).owed ≠ .none)

/-- R22, R141: what is on the wire of the upstream link in a turn: an entry on the wire stands at the
head of the queue, and its turn has budget left for it. -/
def Turn.sound (x : Turn) (entries : List Entry) : Bool :=
  match x.phase, entries with
  | .room, _           => x.sent == 0
  | .entry, head :: _  => decide (x.sent < x.budget) && x.wire == head.wire
  | .entry, []         => false
  | .closing, _        => decide (x.sent ≤ x.budget) && x.wire.isEmpty

/-- R1, R16, R22: a turn runs exactly while the hub is the holder, and a packet is in progress only in
a burst of the host. -/
def State.upstreamFits (s : State) : Bool :=
  match s.upstream.direction, s.upstream.turn with
  | .follower, none   => s.upstream.inProgress.all fun h =>
      s.upstream.rx == .inBurst && decide (1 ≤ h.length ∧ h.length ≤ Config.maxLength)
  | .holder, some x   => x.sound s.ret.entries && s.upstream.rx == .resting
      && s.upstream.inProgress.isNone
  | .follower, some _ => false
  | .holder, none     => false

/-- The upstream port fits its turn, and the settings of RETURN-SET are in range (R173). -/
abbrev State.upstreamSound (s : State) : Prop :=
  s.upstreamFits = true ∧ 1 ≤ s.ret.budget ∧ s.ret.budget ≤ 32 ∧ s.txns.deadlineMs ≤ 1000

/-! ### Transactions (R84, R103, R112, R124, R133, R134, R137) -/

/-- The entries that occupy a slot. -/
def ReturnQueue.inSlot (q : ReturnQueue) (slot : Slot) : Nat :=
  q.entries.countP fun e => e.slot == slot

/-- R112, R124: an OPEN record has a port record unresolved and nothing in its slots; a DONE record has
none unresolved, no deadline, and one REPORT in its slot. -/
def ReturnQueue.fitsRecord (q : ReturnQueue) (t : Tag) : Option Transaction → Bool
  | none   => q.inSlot (.replyOf t) == 0 && q.inSlot (.reportOf t) == 0
  | some x =>
    match x.state with
    | .opened => !x.finished && q.inSlot (.replyOf t) == 0 && q.inSlot (.reportOf t) == 0
    | .done   => x.finished && x.deadline.isNone && decide (q.inSlot (.replyOf t) ≤ 1)
        && q.inSlot (.reportOf t) == 1

/-- R137: a REPLY is immediately followed by the REPORT of the same tag. -/
def repliesPaired : List Entry → Bool
  | []      => true
  | e :: es =>
    (match e.slot with
     | .replyOf t  => es.head?.any fun r => r.slot == .reportOf t
     | .reportOf _ => true
     | .shared     => true) && repliesPaired es

/-- R112: 1 to 4 port records, in ascending port order. -/
def partsAscend : List PortRecord → Bool
  | r :: q :: rest => decide (r.port < q.port) && partsAscend (q :: rest)
  | [_] => true
  | []  => true

/-- R112, R124, R133, R134, R137: records and reserved slots agree. -/
abbrev State.recordsSound (s : State) : Prop :=
  (∀ t : Tag, s.ret.fitsRecord t (s.record t) = true
      ∧ (s.record t).all (fun x => partsAscend x.parts) = true)
    ∧ repliesPaired s.ret.entries = true

/-- The OPEN record of a tag has a port record of port `p` in this state. -/
def State.partIn (s : State) (t : Tag) (p : PortId) (state : PartState) : Bool :=
  (s.record t).any fun x => x.state == .opened
    && x.parts.any fun r => r.port == p && r.state == state

/-- Within a queue, the answer-required piece of a tag is the last piece that carries its link. -/
def answersLast : List Piece → Bool
  | []      => true
  | x :: xs =>
    (match x.link with
     | some t => !x.answerRequired || !xs.any (Piece.linkedTo t)
     | none   => true) && answersLast xs

/-- R84, R90: every link on a port names an OPEN transaction in the right state: QUEUED for pieces and
the pending answer, AWAITING for an exchange that is no orphan. -/
def State.linksGood (s : State) (p : PortId) : Bool :=
  ((s.port p).queue.all fun x => x.link.all fun t => x.tag == t && s.partIn t p .queued)
    && answersLast (s.port p).queue
    && ((s.port p).pendingAnswer.all fun a => a.link.all fun t =>
          a.tag == t && s.partIn t p .queued && !(s.port p).queue.any (Piece.linkedTo t))
    && ((s.port p).exchange.all fun e => !e.hasResult || s.partIn e.tag p .awaiting)

/-- R84, R115: what backs an unresolved port record: a QUEUED one has its answer-required piece in the
queue or in the pending answer, an AWAITING one its open exchange. -/
def State.partBacked (s : State) (t : Tag) (r : PortRecord) : Bool :=
  match r.state with
  | .queued     => (s.port r.port).pendingAnswer.any (fun a => a.link == some t)
      || (s.port r.port).queue.any fun x => x.linkedTo t && x.answerRequired
  | .awaiting   => (s.port r.port).exchange.any fun e => e.hasResult && e.tag == t
  | .resolved _ => true

/-- R84, R103, R115: links and port records agree, both ways. -/
abbrev State.linksSound (s : State) : Prop :=
  (∀ p : PortId, s.linksGood p = true)
    ∧ ∀ t : Tag, (s.record t).all (fun x =>
        x.state != .opened || x.parts.all (s.partBacked t)) = true

/-! ### Frames -/

/-- Nothing but tile port `p` differs. -/
abbrev State.onlyPort (p : PortId) (s t : State) : Prop :=
  t.upstream = s.upstream ∧ t.table = s.table ∧ (∀ q, q ≠ p → t.port q = s.port q)
    ∧ t.txns = s.txns ∧ t.ret = s.ret ∧ t.sync = s.sync ∧ t.agent = s.agent
    ∧ t.ingress = s.ingress ∧ t.pending = s.pending

/-- Nothing but the upstream port differs. -/
abbrev State.onlyUpstream (s t : State) : Prop :=
  t.table = s.table ∧ t.ports = s.ports ∧ t.txns = s.txns ∧ t.ret = s.ret ∧ t.sync = s.sync
    ∧ t.agent = s.agent ∧ t.ingress = s.ingress ∧ t.pending = s.pending

/-! ### What answering and losing make of the return queue, in the spec's own figures -/

/-- R135, R145, R166: the reply of the accepted command `c` joins at the young end and uses up one
reservation. `status` is a status code of R185. -/
def ReturnQueue.answered (q : ReturnQueue) (c : MgmtCommand) (status : Byte) (result : List Byte) :
    ReturnQueue :=
  let r : ReturnQueue := { q with
    entries := q.entries ++ [{ kind := .mgmtReply, tag := c.tag, stream := 31
                               payload := c.payload.headD 0 :: status :: result, slot := .shared }]
    reserved := q.reserved - 1 }
  { r with attention := r.callsHost }

/-- R135, R136, R138: an entry that asks for a free shared slot joins at the young end; without a free
slot it is lost, the lost flag is set and not carried, and the RETURN counts are `counts`. -/
def ReturnQueue.asked (q : ReturnQueue) (e : Entry) (counts : ReturnCounts) : ReturnQueue :=
  let r : ReturnQueue := if q.freeShared = 0 then { q with counts := counts, lost := .set }
           else { q with entries := q.entries ++ [e] }
  { r with attention := r.callsHost }

/-- R144: the event entry with this payload. -/
def eventEntry (payload : List Byte) : Entry :=
  { kind := .event, tag := 0, stream := 31, payload := payload, slot := .shared }

/-- R136, R144: an event of this payload is made, or lost. -/
def State.requestsEvent (s : State) (payload : List Byte) : State :=
  { s with
    ret := s.ret.asked (eventEntry payload)
      { s.ret.counts with eventsLost := bump s.ret.counts.eventsLost } }

/-- R163: the agent's next command is `c`, and `rest` waits behind it. -/
abbrev State.offers (s : State) (c : MgmtCommand) (rest : List MgmtCommand) : Prop :=
  s.agent.inExecution = none ∧ s.agent.queue = c :: rest

/-- R163: `c` has left the queue and is answered with this status code and result. -/
def State.taken (s : State) (c : MgmtCommand) (rest : List MgmtCommand) (status : Byte)
    (result : List Byte) : State :=
  { s with agent := { queue := rest, inExecution := none }, ret := s.ret.answered c status result }

/-- R164: `c` has left the queue and is the command in execution. -/
def State.held (s : State) (c : MgmtCommand) (rest : List MgmtCommand) : State :=
  { s with agent := { queue := rest, inExecution := some c } }

/-! ### A packet of the host about to be complete (R16, R17) -/

/-- The header `h` is in progress, and `payload` is the whole of its payload. -/
abbrev State.awaits (s : State) (h : Header) (payload : List Byte) : Prop :=
  s.upstream.direction = .follower ∧ s.upstream.rx = .inBurst ∧ s.upstream.inProgress = some h
    ∧ payload.length = h.length ∧ payloadFits payload = true

/-- R49 steps 5 to 9 in their order: whether the condition of each holds, and its reason. -/
def headChecks (kind : StreamKind) (h : Header) (payload : List Byte) (members : PortSet)
    (fields : EntryClass) (tagHeld : Bool) : List (Bool × RefusalReason) :=
  let isPixelKind := kind == .frameStart || kind == .line
  match fields with
  | .pixel size _ =>
    [(!isPixelKind, .classMismatch),
     (kind == .frameStart && h.length != 0, .malformed),
     (kind == .line && (h.length == 0 || h.length % size != 0), .malformed)]
  | .command size _ pairs =>
    [(isPixelKind, .classMismatch),
     (h.length == 0, .malformed),
     (kind == .read && decide (16 < h.length), .tooLong),
     ((kind == .read || h.ackRequest) && tagHeld, .tagBusy),
     (kind == .read && decide (1 < (PortSet.toList members).length), .multiRead),
     (kind == .write && decide (size < h.length)
        && !(pairs.map SplitPair.lead).contains (payload.headD 0), .tooLong)]

/-- R40: the packet does not take a pending commit, under the active entry of its stream `id`. -/
abbrev State.takesNoCommit (s : State) (kind : StreamKind) (h : Header) (id : Fin 31) : Prop :=
  s.table.commit = .none ∨ kind ≠ .frameStart ∨ h.length ≠ 0 ∨ s.table.active[id].isPixel = false

/-! ### The link of a port that enters CLEARING (R101) -/

/-- The link of a port that was not CLEARING, once it is: seizing when the tile holds, letting a PASS
go to its end, and otherwise sending CLEAR. -/
def Port.linkAtClearing (x : Port) : Holder × Option Nat × PortTx :=
  if x.holder = .tile then (.tile, some 20, .idle)
  else if x.tx = .passAnswer ∨ x.tx = .passWatch then (.hub, x.seize, x.tx)
  else (.hub, x.seize, .clear)

/-- The receiver rests once a seize has started (R10, R24). -/
def Port.rxAtClearing (x : Port) : RxState := if x.holder = .tile then .resting else x.rx

/-- R79, R100: a port whose queue, exchange, pending answer, timer and limit state a flush has emptied,
the flushed pieces counted. -/
def Port.swept (x : Port) : Port :=
  { x with
    queue := [], pendingAnswer := none, exchange := none, answerTimer := none, limit := none
    counts := { x.counts with
      flushedPieces := BitVec.ofNat 32 (min (x.counts.flushedPieces.toNat + x.queue.length) (2 ^ 32 - 1)) } }

/-! ### What the tile ports and the sync groups tell one another -/

/-- R24: the tile sends into a burst on a link that port `p` receives from. -/
abbrev State.inBurstOf (s : State) (p : PortId) (e : Exchange) : Prop :=
  (s.port p).receives = true ∧ (s.port p).rx = .inBurst ∧ (s.port p).exchange = some e

/-- The tile sends a token while its link rests between bursts. -/
abbrev State.restingAt (s : State) (p : PortId) (e : Exchange) : Prop :=
  (s.port p).receives = true ∧ (s.port p).rx = .resting ∧ (s.port p).exchange = some e

/-- R149: group `g` is the one group of which port `p` is a member. -/
abbrev State.memberOf (s : State) (p : PortId) (g : GroupId) : Prop :=
  PortSet.has (s.group g).members p = true
    ∧ ∀ k, k ≠ g → PortSet.has (s.group k).members p = false

/-- R151: every present member of group `g` is in this set, and some member is present. -/
abbrev State.allPresentIn (s : State) (g : GroupId) (reported : PortSet) : Prop :=
  (∃ q, PortSet.has (s.group g).members q = true ∧ (s.port q).isDown = false)
    ∧ ∀ q, PortSet.has (s.group g).members q = true → (s.port q).isDown = false →
        PortSet.has reported q = true

/-- R153: a completed round of group `g`: SYNC-ROUND with the number of that round is requested, and the
group's next round is empty. -/
def State.roundEnds (s : State) (g : GroupId) : State :=
  let x := s.group g
  (s.requestsEvent [2, byte g, byte (x.roundNumber / 256), byte x.roundNumber]).setGroup g
    { x with
      reported := 0, timer := none, rounds := bump x.rounds
      roundNumber := (x.roundNumber + 1) % 65536
      mode := if x.mode = .once then .off else x.mode }

/-- R86: what a READY port that sends nothing does with its queue and its wish to watch. A piece it sends is on
the wire at this event (assumption log 19). -/
def Port.readyToSend (x : Port) (wanted : Bool) : Port :=
  match x.queue with
  | head :: _ => { x with phase := .sending, tx := .piece head.wire
                          counts := { x.counts with bursts := bump x.counts.bursts } }
  | []        => { x with phase := .ready, tx := if wanted then .passWatch else .idle }

end Sys2Proof.Machine
end

