-- ==== Sys2Proof/Certificates/Slice0/Obligations.lean ====
section
/-! DEFINITION. The statements for the provers, each a named proposition. The conclusion of a statement
about a command is the whole next state, so that what it does not name is unchanged. -/

section

open Sys2Proof Sys2Proof.Machine

/-! ### The machine -/

/-- A step takes the command that has waited longest and runs it with the rest of the queue. The
queue is the model's own (assumption log 2). -/
def Obligations.StepRunsTheFrontCommand : Prop :=
  ∀ (c : Instr) (s : State) (rest : List Instr), s.pending = c :: rest →
    step s = exec c { s with pending := rest }

/-- While no command waits, a step is one microsecond: every running timer counts down by one, and
exactly the expiries that this microsecond brings are waiting afterwards. The spec gives the timers;
that a step on an empty queue is a microsecond is the model's choice (assumption log 5). -/
def Obligations.AnIdleStepIsOneMicrosecond : Prop :=
  ∀ s : State, s.pending = [] → ∃ t, step s = .next t
    ∧ (∀ p, t.port p = { s.port p with seize := (s.port p).seize.map (· - 1)
                                       answerTimer := (s.port p).answerTimer.map (· - 1) })
    ∧ (∀ g, t.group g = { s.group g with timer := (s.group g).timer.map (· - 1) })
    ∧ (∀ k, t.record k = (s.record k).map fun x => { x with deadline := x.deadline.map (· - 1) })
    ∧ (∀ c, c ∈ t.pending ↔
        (∃ p, c = .seizeComplete p ∧ (s.port p).seize = some 1)
        ∨ (∃ p, c = .answerTimerExpiry p ∧ (s.port p).answerTimer = some 1)
        ∨ (∃ g, c = .syncWindowExpiry g ∧ (s.group g).timer = some 1)
        ∨ (∃ k, c = .deadlineExpiry k ∧ ∃ x, s.record k = some x ∧ x.deadline = some 1))
    ∧ t.upstream = s.upstream ∧ t.table = s.table ∧ t.ret = s.ret ∧ t.agent = s.agent
    ∧ t.ingress = s.ingress ∧ t.txns.deadlineMs = s.txns.deadlineMs
    ∧ t.sync.unwatchedSyncs = s.sync.unwatchedSyncs

/-- Every command completes, in every state: none faults and none is refused. No command touches the queue
of those that wait, a reset included. That an operand which no link can deliver is not refused, and the queue,
are the model's choices (assumption logs 1, 2 and 7). -/
def Obligations.EveryCommandCompletes : Prop :=
  ∀ (c : Instr) (s : State), ∃ t, exec c s = .next t ∧ t.pending = s.pending

/-- R14, R46, R81, R130, R133, R145, R148, R161, R64: a reset frees every record and sets the transaction deadline
to 50 ms; no entry is left in the return queue; every other block stands at its reset values. The spec gives each
of them but three that are the model's choice (DESIGN CHOICE, unsafe, assumption log 18): the receiver of each
tile link rests, no return turn is in progress, and each port is sending its CLEAR. -/
def Obligations.ResetLeavesEveryBlockAtItsResetValues : Prop :=
  ∀ s : State, ∃ t, exec .reset s = .next t
    ∧ t.upstream = { direction := .follower, rx := .resting, inProgress := none, turn := none
                     counts := ⟨0, 0, 0, 0, 0, 0, 0, 0⟩ }
    ∧ (∀ i : Fin 31, t.table.active[i] = .off ∧ t.table.staged[i] = .off) ∧ t.table.commit = .none
    ∧ (∀ p, t.port p =
        { phase := .clearing .ready, holder := .hub, seize := none, rx := .resting, tx := .clear
          queue := [], pendingAnswer := none, exchange := none, answerTimer := none, limit := none
          failures := 0, answerTimeout := 1000, failureLimit := 3, owed := .none
          counts := ⟨0, 0, 0, 0, 0, 0, 0, 0, 0⟩ })
    ∧ (∀ k, t.record k = none) ∧ t.txns.deadlineMs = 50
    ∧ t.ret = { entries := [], reserved := 0, lost := .clear, mask := ⟨true, true, true, true⟩
                budget := 8, counts := ⟨0, 0, 0⟩, attention := false }
    ∧ (∀ g, t.group g =
        { members := 0, mode := .off, window := 1000, reported := 0, timer := none, roundNumber := 0
          rounds := 0, splits := 0, earlySyncs := 0 })
    ∧ t.sync.unwatchedSyncs = 0 ∧ t.agent = { queue := [], inExecution := none }
    ∧ (∀ i : Fin 31, t.ingress.streams[i] = ⟨0, 0, 0⟩) ∧ (∀ i : Fin 9, t.ingress.refusals[i] = 0)

/-! ### Receiving from the host (Chapter 1) -/

/-- R4, R15, R19: a burst open leaves the receiver IN-BURST and a burst close leaves it RESTING, from every receive
state. Data symbols cut short in a burst count as one truncated packet, and a packet whose good header had
arrived is also noticed to ingress. -/
def Obligations.BurstOpenAndCloseFrameTheHostsPackets : Prop :=
  ∀ (s : State) (cut : List Byte), cutFits cut = true → s.upstream.direction = .follower →
    let after (u : State) (rx : RxState) (isTruncated : Bool) : State :=
      { u with
        upstream := { s.upstream with
          rx := rx, inProgress := none
          counts := if isTruncated then
              { s.upstream.counts with truncatedPackets := bump s.upstream.counts.truncatedPackets }
            else s.upstream.counts } }
    (s.upstream.inProgress = none →
      let isTruncated := s.upstream.rx == .inBurst && !cut.isEmpty
      exec (.upstreamBurstOpen cut) s = .next (after s .inBurst isTruncated)
      ∧ exec (.upstreamBurstClose cut) s = .next (after s .resting isTruncated))
    ∧ ∀ h, s.upstream.rx = .inBurst → s.upstream.inProgress = some h →
        exec (.upstreamBurstOpen cut) s = .next (after (s.failedPayload h) .inBurst true)
        ∧ exec (.upstreamBurstClose cut) s = .next (after (s.failedPayload h) .resting true)

/-- R20: a data symbol in RESTING is discarded and enters DESYNC with one count; in DESYNC further data
symbols change nothing, until a burst open or a burst close ends it without another count. -/
def Obligations.ADataSymbolOutsideABurstDesynchronises : Prop :=
  ∀ (s : State) (b : Byte) (cut : List Byte), s.upstream.direction = .follower →
    (s.upstream.rx = .resting →
      exec (.strayDataSymbol b) s = .next { s with
        upstream := { s.upstream with
          rx := .desync, inProgress := none
          counts := { s.upstream.counts with
            desyncBursts := bump s.upstream.counts.desyncBursts } } })
    ∧ (s.upstream.rx = .desync → exec (.strayDataSymbol b) s = .next s)
    ∧ (s.upstream.rx = .desync → cutFits cut = true →
        exec (.upstreamBurstOpen cut) s
          = .next { s with upstream := { s.upstream with rx := .inBurst, inProgress := none } }
        ∧ exec (.upstreamBurstClose cut) s
          = .next { s with upstream := { s.upstream with rx := .resting, inProgress := none } })

/-- R16: the tenth byte of a header. A bad header is counted and enters DESYNC with one count; a good one
with a Length above 0 is in progress. In DESYNC headers and payloads are discarded without a count. A good
header with Length 0 completes its packet at once, and the model hands that packet to ingress in the same step
(DEDUCED, assumption log 8). -/
def Obligations.AHeaderIsJudgedAtItsTenthByte : Prop :=
  ∀ (s : State) (header payload : List Byte) (check : Half), headerFits header = true →
    s.upstream.direction = .follower →
    (s.upstream.rx = .inBurst → s.upstream.inProgress = none → judgeHeader header = none →
      exec (.headerArrival header) s = .next { s with
        upstream := { s.upstream with
          rx := .desync
          counts := { s.upstream.counts with
            headerErrors := bump s.upstream.counts.headerErrors
            desyncBursts := bump s.upstream.counts.desyncBursts } } })
    ∧ (∀ h, s.upstream.rx = .inBurst → s.upstream.inProgress = none → judgeHeader header = some h →
        exec (.headerArrival header) s = .next
          (if h.length = 0 then s.classify h []
           else { s with upstream := { s.upstream with inProgress := some h } }))
    ∧ (s.upstream.rx = .desync → exec (.headerArrival header) s = .next s)
    ∧ (s.upstream.rx = .desync → payloadFits payload = true →
        exec (.packetArrival payload check) s = .next s)

/-- R17, R18: the last check byte of a packet. With a matching check its packet goes to ingress whole; with
another it is counted and ingress gets a failed-payload notice. The receiver stays IN-BURST. -/
def Obligations.ACompletePacketIsHandedOverOrNoticed : Prop :=
  ∀ (s : State) (h : Header) (payload : List Byte) (check : Half), s.awaits h payload →
    exec (.packetArrival payload check) s = .next
      (if crc16 payload = check then
        ({ s with upstream := { s.upstream with inProgress := none } }).classify h payload
      else
        { s.failedPayload h with
          upstream := { s.upstream with
            inProgress := none
            counts := { s.upstream.counts with
              payloadErrors := bump s.upstream.counts.payloadErrors } } })

/-- R5, R6, R21: a token symbol inside a burst or in DESYNC is a token error, and so is one in RESTING
whose code is neither PASS nor CLEAR: counted, and nothing else changes. -/
def Obligations.WrongHostTokensAreOnlyCounted : Prop :=
  ∀ (s : State) (code : Byte), s.upstream.direction = .follower →
    let counted : State := { s with
      upstream := { s.upstream with
        counts := { s.upstream.counts with tokenErrors := bump s.upstream.counts.tokenErrors } } }
    (s.upstream.rx ≠ .resting → exec (.upstreamTokenError code) s = .next counted
      ∧ exec .hostPass s = .next counted ∧ exec .hubClear s = .next counted)
    ∧ (s.upstream.rx = .resting → code ≠ 0xB4 → code ≠ 0xC9 →
        exec (.upstreamTokenError code) s = .next counted)

/-! ### Ingress (Chapter 3) -/

/-- R48: what ingress does with a failed-payload notice, by the header it carries. R62, R63: a refusal goes up in the
refused count of its stream and in the count of its reason; a tagged request also asks a shared slot for its
REPORT of 3 bytes with the code of the reason; nothing else changes. -/
def Obligations.NoticesAndRefusalsAreCountedAndReported : Prop :=
  (∀ (s : State) (h : Header),
    (h.kind = 0x21 → h.stream ≤ 30 → s.failedPayload h = s.refuse h (some .read) .payloadCheck)
    ∧ (h.kind = 0x20 → h.ackRequest = true → h.stream ≤ 30 →
        s.failedPayload h = s.refuse h (some .write) .payloadCheck)
    ∧ (h.kind = 0x30 → h.stream = 31 →
        s.failedPayload h = { s with
          ret := s.ret.asked { kind := .mgmtReply, tag := h.tag, stream := 31, payload := [0, 8]
                               slot := .shared }
            { s.ret.counts with mgmtDiscarded := bump s.ret.counts.mgmtDiscarded } })
    ∧ (h.kind ≠ 0x20 → h.kind ≠ 0x21 → h.kind ≠ 0x30 → s.failedPayload h = s)
    ∧ (h.kind = 0x20 → h.ackRequest = false → s.failedPayload h = s)
    ∧ ((h.kind = 0x20 ∨ h.kind = 0x21) → h.stream = 31 → s.failedPayload h = s)
    ∧ (h.kind = 0x30 → h.stream ≠ 31 → s.failedPayload h = s))
  ∧ ∀ (s : State) (h : Header) (tagged : Option RequestKind) (r : RefusalReason),
    let code (q : RefusalReason) : Nat := match q with
      | .streamOff => 1 | .classMismatch => 2 | .malformed => 3 | .tooLong => 4 | .tagBusy => 5
      | .multiRead => 6 | .noPort => 7 | .noRoom => 8 | .payloadCheck => 9
    let t := s.refuse h tagged r
    (∀ n : Nat, t.streamCounts n = if n = h.stream then
        (s.streamCounts n).map fun c => { c with refused := bump c.refused } else s.streamCounts n)
    ∧ (∀ q : RefusalReason, t.ingress.refusals[code q - 1]? =
        if q = r then (s.ingress.refusals[code q - 1]?).map bump else s.ingress.refusals[code q - 1]?)
    ∧ t.ret = (match tagged with
        | none      => s.ret
        | some kind => s.ret.asked
            { kind := .report, tag := h.tag, stream := h.stream, slot := .shared
              payload := [match kind with | .read => 0x21 | .write => 0x20, 1, byte (code r)] }
            { s.ret.counts with reportsLost := bump s.ret.counts.reportsLost })
    ∧ { t with ingress := s.ingress, ret := s.ret } = s

/-- R50: a kind that the host may not send, a MGMT off stream 31, and any other kind on stream 31 are
kind errors: counted in the UPSTREAM block, and nothing else happens. -/
def Obligations.KindErrorsAreCountedAndDiscarded : Prop :=
  ∀ (s : State) (h : Header) (payload : List Byte),
    (h.kind ∉ [0x10#8, 0x11#8, 0x20#8, 0x21#8, 0x30#8]
      ∨ (h.kind = 0x30 ∧ h.stream ≠ 31) ∨ (h.kind ≠ 0x30 ∧ h.stream = 31)) →
    s.classify h payload = { s with
      upstream := { s.upstream with
        counts := { s.upstream.counts with kindErrors := bump s.upstream.counts.kindErrors } } }

/-- R51, R162: a MGMT on stream 31. With 1..64 bytes it is accepted when a shared slot is free and fewer
than 4 commands wait, answered OVERRUN when 4 wait, and discarded with a loss when no slot is free;
with another Length it is answered BAD-ARG in a shared slot or lost. -/
def Obligations.ManagementPacketsAreAcceptedOrDiscarded : Prop :=
  ∀ (s : State) (h : Header) (payload : List Byte), h.kind = 0x30 → h.stream = 31 →
    let replyWith (status : Byte) : Entry :=
      { kind := .mgmtReply, tag := h.tag, stream := 31, payload := [payload.headD 0, status]
        slot := .shared }
    let discarded := { s.ret.counts with mgmtDiscarded := bump s.ret.counts.mgmtDiscarded }
    let fits := 1 ≤ h.length ∧ h.length ≤ 64
    (fits → s.ret.freeShared ≠ 0 → s.agent.queue.length < 4 →
      s.classify h payload = { s with
        agent := { s.agent with queue := s.agent.queue ++ [{ tag := h.tag, payload := payload }] }
        ret := { s.ret with reserved := s.ret.reserved + 1 } })
    ∧ (fits → s.ret.freeShared ≠ 0 → 4 ≤ s.agent.queue.length →
        s.classify h payload =
          { s with ret := ({ s.ret with counts := discarded }).push (replyWith 7) })
    ∧ (fits → s.ret.freeShared = 0 →
        s.classify h payload =
          { s with ret := ({ s.ret with counts := discarded, lost := .set }).judged })
    ∧ (¬ fits → s.classify h payload = { s with ret := s.ret.asked (replyWith 3) discarded })

/-- R49, R52 to R58: a FRAME-START, LINE, WRITE or READ that takes no pending commit is judged under the active
entry of its stream. OFF refuses it STREAM-OFF. Of the checks of steps 5 to 9 the first that fails gives the
reason. When all pass, a LINE for which the slicer forms no piece is unmapped and only counted, another packet
without a target is refused NO-PORT, and a packet whose pieces do not fit the free room of some target, in
number or in bytes, is refused NO-ROOM, while the queues keep their limits as every step leaves them. -/
def Obligations.TheFirstFailingCheckGivesTheReason : Prop :=
  ∀ (s : State) (h : Header) (payload : List Byte) (kind : StreamKind) (id : Fin 31),
    hostKind h.kind = some (.stream kind) → h.stream = id.val → s.takesNoCommit kind h id →
    let refused (r : RefusalReason) : Prop := s.classify h payload = s.refuse h (kind.tagged h) r
    (s.table.active[id] = .off → refused .streamOff)
    ∧ ∀ members out fields, s.table.active[id] = .on members out fields →
        let checks := headChecks kind h payload members fields (s.record h.tag).isSome
        let targets := s.sliceFor kind h payload members out fields
        (∀ r, checks.find? Prod.fst = some (true, r) → refused r)
        ∧ ((∀ c ∈ checks, c.1 = false) →
            (targets = [] → kind = .line →
              s.classify h payload = s.countStream h.stream fun c =>
                { c with unmappedLines := bump c.unmappedLines })
            ∧ (targets = [] → kind ≠ .line → refused .noPort)
            ∧ (s.queuesFit →
                (∃ x ∈ targets, 64 < (s.port x.port).queue.length + x.pieces.length
                  ∨ 8192 < queueBytes (s.port x.port).queue + queueBytes x.pieces) →
                refused .noRoom))

/-- R59 to R61, R86: a packet that passes every check is admitted to all its targets: its pieces, linked when
the request is tagged, stand at the young end of each target's queue; an admitted LIMIT sets the limit
state; a target that is READY and sends nothing opens its burst at the same event, with the piece at the head of
its queue on the wire and one more burst counted; nothing else of a target changes. The stream's admitted count
goes up once; a tagged request opens its record. Ports that are no target, other records and the other blocks are
unchanged. That the first piece is on the wire at the event that opens the burst is the model's choice (assumption
log 19). -/
def Obligations.AnAdmittedPacketReachesAllItsTargets : Prop :=
  ∀ (s : State) (h : Header) (payload : List Byte) (kind : StreamKind) (id : Fin 31)
    (members : PortSet) (out : Nat) (fields : EntryClass),
    hostKind h.kind = some (.stream kind) → h.stream = id.val → s.takesNoCommit kind h id →
    s.table.active[id] = .on members out fields →
    (∀ c ∈ headChecks kind h payload members fields (s.record h.tag).isSome, c.1 = false) →
    let targets := s.sliceFor kind h payload members out fields
    targets ≠ [] →
    (∀ x ∈ targets, (s.port x.port).queue.length + x.pieces.length ≤ 64
      ∧ queueBytes (s.port x.port).queue + queueBytes x.pieces ≤ 8192) →
    let t := s.classify h payload
    let tagged := kind.tagged h
    let linked (x : Piece) : Piece :=
      if tagged.isSome ∧ x.kind ≠ .limit then { x with link := some h.tag } else x
    (∀ x ∈ targets,
      let y : Port := { s.port x.port with
        queue := (s.port x.port).queue ++ x.pieces.map linked
        limit := if x.pieces.any fun y => y.kind = .limit then
            (match fields with | .command _ n _ => some n | .pixel _ _ => none)
          else (s.port x.port).limit }
      t.port x.port =
        if y.phase = .ready ∧ y.tx = .idle then y.readyToSend (s.wanted x.port) else y)
    ∧ (∀ p, (∀ x ∈ targets, x.port ≠ p) → t.port p = s.port p)
    ∧ t.record h.tag = (match tagged with
        | some request => some
            { kind := request, stream := h.stream, state := .opened, data := none
              deadline := if s.txns.deadlineMs = 0 then none else some (s.txns.deadlineMs * 1000)
              parts := (PortSet.toList members).map fun p =>
                { port := p, isPartial := false, errorWord := none
                  state := if (s.port p).live then .queued else .resolved .down } }
        | none => s.record h.tag)
    ∧ (∀ k, k ≠ h.tag → t.record k = s.record k)
    ∧ (∀ n : Nat, t.streamCounts n = if n = h.stream then
        (s.streamCounts n).map fun c => { c with admitted := bump c.admitted } else s.streamCounts n)
    ∧ t.upstream = s.upstream ∧ t.table = s.table ∧ t.ret = s.ret ∧ t.sync = s.sync
    ∧ t.agent = s.agent ∧ t.ingress.refusals = s.ingress.refusals
    ∧ t.txns.deadlineMs = s.txns.deadlineMs ∧ t.pending = s.pending

/-- R40, R42: while a commit is pending, a FRAME-START of Length 0 on a stream whose active entry is ON and
PIXEL takes it before its lookup: the staged bank becomes the active bank, no commit is pending, and
COMMIT-DONE is requested; the FRAME-START is then classified like any packet. A FRAME-START that does
not qualify is classified under the active bank as it stands. -/
def Obligations.AQualifyingFrameStartTakesThePendingCommit : Prop :=
  ∀ (s : State) (h : Header) (id : Fin 31), h.kind = 0x10 → h.stream = id.val →
    s.table.commit = .pendingFrame →
    (∀ members out size windows, s.table.active[id] = .on members out (.pixel size windows) →
      h.length = 0 →
      s.classify h [] =
        (({ s with table := { s.table with active := s.table.staged, commit := .none } }).requestsEvent
          [1, byte h.stream]).classify h [])
    ∧ ((h.length ≠ 0 ∨ s.table.active[id] = .off
        ∨ ∃ members out size limit pairs,
            s.table.active[id] = .on members out (.command size limit pairs)) →
        ∀ payload, (s.classify h payload).table = s.table)

/-! ### The slicer (Chapter 4) -/

/-- R71, R72: the slice of a line for a window it meets holds, pixel by pixel and in order, exactly the
pixels of the packet in the columns that the line and the window have in common, at the rebased line and
column; a line that misses the window, in its line or in its columns, gives no slice. -/
def Obligations.ASliceHoldsThePixelsOfItsWindow : Prop :=
  ∀ (out size : Nat) (windows : Vector (Option Window) 4) (h : Header) (payload : List Byte)
    (p : PortId) (w : Window), windows[p] = some w → 0 < size → payload.length = h.length →
    h.length % size = 0 →
    let n := h.length / size
    let low := max h.column w.firstColumn
    let high := min (h.column + n) (w.firstColumn + w.width)
    let meets := w.firstLine ≤ h.line ∧ h.line < w.firstLine + w.height ∧ low < high
    (¬ meets → lineFor out size windows h payload p = none)
    ∧ (meets → ∃ x, lineFor out size windows h payload p = some { port := p, pieces := [x] }
        ∧ x.kind = .line ∧ x.outStream = out ∧ x.tag = 0 ∧ x.ackRequest = false
        ∧ x.answerRequired = false ∧ x.link = none ∧ x.place = none ∧ x.returnLimit = none
        ∧ x.position = some { line := h.line - w.firstLine, column := low - w.firstColumn }
        ∧ x.payload.length = (high - low) * size
        ∧ ∀ column i, low ≤ column → column < high → i < size →
            x.payload[(column - low) * size + i]? = payload[(column - h.column) * size + i]?)

/-- R74 to R76: the pieces of a WRITE. One that fits the Piece size is one piece, unchanged. A longer one
whose opcode is a lead is cut into K pieces, K the parameter bytes over S − 1 rounded up: the first under
the lead opcode, the others under the continuation, all but the last of exactly S bytes, indices 1 to K;
joined without their opcodes they give back the parameters. Only the last piece of an acknowledged WRITE
asks for an answer. R56, R57, R69, R72, R73, R76 to R78: what the slicer forms of a packet in a state, for each port
in ascending order that is a live member, neither DOWN nor clearing toward DOWN, and for no other port. A
FRAME-START gives each of them one piece of 0 bytes, Tag 0 and clear flags. A LINE gives its slice to each of them
whose window it meets. A WRITE gives each of them all its pieces. A READ gives its READ piece, which carries the
entry's Return limit and asks for an answer, and before it a LIMIT piece exactly when the limit state of the port
differs from that limit. -/
def Obligations.PacketsAreSlicedForTheirLiveMembers : Prop :=
  (∀ (out size : Nat) (pairs : List SplitPair) (h : Header) (opcode : Byte) (parameters : List Byte),
    16 ≤ size →
    let pieces := writePieces out size pairs h (opcode :: parameters)
    (parameters.length + 1 ≤ size → pieces.map Piece.payload = [opcode :: parameters])
    ∧ (pieces.flatMap fun x => x.payload.tail) = parameters
    ∧ (∀ pair ∈ pairs, pair.lead = opcode → (∀ q ∈ pairs, q.lead = opcode → q = pair) →
        size < parameters.length + 1 →
        (pieces.map fun x => x.payload.headD 0)
            = opcode :: List.replicate (pieces.length - 1) pair.continuation
        ∧ pieces.length = (parameters.length + (size - 2)) / (size - 1)
        ∧ ∀ x ∈ pieces.dropLast, x.payload.length = size)
    ∧ (∀ x ∈ pieces, 1 ≤ x.payload.length ∧ x.payload.length ≤ size ∧ x.kind = .write
        ∧ x.outStream = out ∧ x.tag = h.tag ∧ x.position = none ∧ x.returnLimit = none
        ∧ x.link = none)
    ∧ (∀ (k : Nat) (x : Piece), pieces[k]? = some x →
        x.place = some { index := k + 1, count := pieces.length }
        ∧ x.ackRequest = (h.ackRequest && decide (k + 1 = pieces.length))
        ∧ x.answerRequired = (h.ackRequest && decide (k + 1 = pieces.length))))
  ∧ ∀ (s : State) (members : PortSet) (out size returnLimit : Nat) (windows : Vector (Option Window) 4)
    (pairs : List SplitPair) (h : Header) (payload : List Byte),
    let live (p : PortId) : Prop := PortSet.has members p = true
      ∧ ∀ cause, (s.port p).phase ≠ .down cause ∧ (s.port p).phase ≠ .clearing (.down cause)
    let goesTo (targets : List PortPieces) (concerned : PortId → Prop) : Prop :=
      (targets.map PortPieces.port).Pairwise (· < ·)
      ∧ ∀ p, p ∈ targets.map PortPieces.port ↔ concerned p
    let blank (kind : PieceKind) : Piece :=
      { kind := kind, outStream := out, tag := 0, ackRequest := false, position := none, payload := []
        answerRequired := false, returnLimit := none, place := none, link := none }
    let pixel : EntryClass := .pixel size windows
    let command : EntryClass := .command size returnLimit pairs
    let starts := s.sliceFor .frameStart h payload members out pixel
    let slices := s.sliceFor .line h payload members out pixel
    let writes := s.sliceFor .write h payload members out command
    let reads := s.sliceFor .read h payload members out command
    let read : Piece := { blank .read with
      tag := h.tag, payload := payload, answerRequired := true, returnLimit := some returnLimit }
    let limit : Piece := { blank .limit with payload := [byte (returnLimit / 256), byte returnLimit] }
    (goesTo starts live ∧ ∀ x ∈ starts, x.pieces = [blank .frameStart])
    ∧ (goesTo slices (fun p => live p ∧ ∃ w, windows[p] = some w
          ∧ w.firstLine ≤ h.line ∧ h.line < w.firstLine + w.height
          ∧ max h.column w.firstColumn < min (h.column + h.length / size) (w.firstColumn + w.width))
        ∧ ∀ x ∈ slices, lineFor out size windows h payload x.port = some x)
    ∧ (goesTo writes live ∧ ∀ x ∈ writes, x.pieces = writePieces out size pairs h payload)
    ∧ (goesTo reads live ∧ ∀ x ∈ reads, x.pieces
        = if (s.port x.port).limit = some returnLimit then [read] else [limit, read])

/-! ### Return turns (Chapter 7) -/

/-- R22, R138, R139, R143, R184: the host's PASS in RESTING makes the hub the holder and builds the ROOM from
the state as it stands: for each port its state code, free pieces and free bytes, then the free shared
slots, the tags in use and the flags. The budget is read, and a lost flag that the ROOM shows is carried. -/
def Obligations.TheHostsPassOpensAReturnTurn : Prop :=
  ∀ s : State, s.upstream.direction = .follower → s.upstream.rx = .resting →
    ∃ tags : Nat, tags < 65536 ∧ (∀ k : Tag, tags.testBit k.val = (s.record k).isSome) ∧
    let payload :=
      (allPorts.flatMap fun p =>
        let freeBytes := 8192 - ((s.port p).queue.map fun x => x.payload.length).sum
        [(s.port p).phase.code, byte (64 - (s.port p).queue.length), byte (freeBytes / 256),
         byte freeBytes])
      ++ [byte s.ret.freeShared, byte (tags / 256), byte tags,
          byte ((if s.ret.lost = .clear then 0 else 1)
            + (if s.table.commit = .pendingFrame then 2 else 0))]
    exec .hostPass s = .next { s with
      upstream := { s.upstream with
        direction := .holder
        turn := some { budget := s.ret.budget, sent := 0, phase := .room
                       wire := composeHeader 0x44 31 false 0 0 0 20 ++ payload
                         ++ halfBytes (crc16 payload) } }
      ret := { s.ret with lost := if s.ret.lost = .clear then .clear else .carried } }

/-- R127, R138, R140, R141: the course of a return turn. The ROOM sent in full clears a carried lost flag. An entry
sent in full leaves the head of the queue; a completion REPORT frees its record and no other entry does. After
either, the entry now at the head follows while fewer than the budget have been sent, and otherwise the
closing of the turn. R8, R22, R142: the turn ends by the hub's PASS or by a collision, which is counted; the hub is
the follower, its receiver rests, and the return queue is as the turn's sending left it. -/
def Obligations.AReturnTurnRunsItsCourse : Prop :=
  ∀ (s : State) (x : Turn), s.upstream.direction = .holder → s.upstream.turn = some x →
    let next (count : Nat) (queue : List Entry) : Turn := match queue with
      | e :: _ => if count < x.budget then { x with sent := count, phase := .entry, wire := e.wire }
                  else { x with sent := count, phase := .closing, wire := [] }
      | []     => { x with sent := count, phase := .closing, wire := [] }
    let after (turn : Turn) (ret : ReturnQueue) : State := { s with
      upstream := { s.upstream with turn := some turn }
      ret := { ret with attention := ret.callsHost } }
    (x.phase = .room → exec .roomSent s = .next
      (after (next x.sent s.ret.entries)
        { s.ret with lost := if s.ret.lost = .carried then .clear else s.ret.lost }))
    ∧ (∀ e rest, x.phase = .entry → s.ret.entries = e :: rest →
        let sent := after (next (x.sent + 1) rest) { s.ret with entries := rest }
        (∀ k, e.slot = .reportOf k → exec .entrySent s = .next
          { sent with txns := { s.txns with records := s.txns.records.set k none } })
        ∧ ((∀ k, e.slot ≠ .reportOf k) → exec .entrySent s = .next sent))
    ∧ (let ended (counts : UpstreamCounts) : State := { s with
         upstream := { direction := .follower, rx := .resting, inProgress := none, turn := none
                       counts := counts } }
       (x.phase = .closing → exec .returnTurnPassSent s = .next (ended s.upstream.counts))
       ∧ exec .upstreamCollision s = .next
          (ended { s.upstream.counts with collisions := bump s.upstream.counts.collisions }))

/-! ### The hub clear -/

/-- R23, R45, R110, R129, R147, R159, R179: a hub clear. Ports that are not DOWN flush and clear, a clearing
toward DOWN goes on, records and return entries are discarded, groups go OFF, the agent is emptied, and a
pending commit is cancelled. Banks, settings and counts are kept, but for the hub-clears count and the
flushed pieces. -/
def Obligations.AHubClearDiscardsAllWork : Prop :=
  ∀ s : State, s.upstream.direction = .follower → s.upstream.rx = .resting →
    ∃ t, exec .hubClear s = .next t
    ∧ t.upstream = { s.upstream with
        counts := { s.upstream.counts with hubClears := bump s.upstream.counts.hubClears } }
    ∧ t.table = { s.table with commit := .none }
    ∧ (∀ p, t.port p =
        let x := s.port p
        match x.phase with
        | .down _ | .clearing (.down _) => { x with owed := .none }
        | .clearing .ready => { x.swept with owed := .none }
        | .ready | .sending | .waiting | .watching =>
          { x.swept with
            phase := .clearing .ready, holder := x.linkAtClearing.1, seize := x.linkAtClearing.2.1
            tx := x.linkAtClearing.2.2, rx := x.rxAtClearing, owed := .none })
    ∧ (∀ k, t.record k = none) ∧ t.txns.deadlineMs = s.txns.deadlineMs
    ∧ t.ret = { s.ret with entries := [], reserved := 0, lost := .clear, attention := false }
    ∧ (∀ g, t.group g = { s.group g with mode := .off, reported := 0, timer := none })
    ∧ t.sync.unwatchedSyncs = s.sync.unwatchedSyncs
    ∧ t.agent = { queue := [], inExecution := none } ∧ t.ingress = s.ingress
    ∧ t.pending = s.pending

/-! ### The tile ports (Chapter 5) -/

/-- R87 to R89: a piece sent in full leaves the head of the queue and is counted. After an answer-required
piece the pending answer is kept and the PASS is sent; otherwise the next piece goes on in the same burst,
or the burst ends normally, with the failure count 0, and the port is READY. That the next piece is on the wire at
this very event is the model's choice (assumption log 19). -/
def Obligations.APieceSentTakesOneOfThreeCourses : Prop :=
  ∀ (s : State) (p : PortId) (wire : List Byte) (head : Piece) (rest : List Piece),
    (s.port p).phase = .sending → (s.port p).tx = .piece wire → (s.port p).queue = head :: rest →
    let x := { s.port p with
      queue := rest
      counts := { (s.port p).counts with piecesSent := bump (s.port p).counts.piecesSent } }
    (head.answerRequired = true → exec (.pieceSent p) s = .next (s.setPort p { x with
      tx := .passAnswer
      pendingAnswer := some
        { tag := head.tag, link := head.link
          answers := match head.returnLimit with | some n => .read n | none => .write } }))
    ∧ (∀ next more, head.answerRequired = false → rest = next :: more →
        exec (.pieceSent p) s = .next (s.setPort p { x with tx := .piece next.wire }))
    ∧ (head.answerRequired = false → rest = [] →
        exec (.pieceSent p) s = .next (s.setPort p { x with
          phase := .ready, failures := 0, tx := if s.wanted p then .passWatch else .idle }))

/-- R90, R115: when the PASS has been sent, the tile holds the link and the exchange is open: WAITING with the
answer timer running after an answer-required piece, WATCHING without one for a watch. A linked exchange
makes its port record AWAITING; one without a link is an orphan and tells the table nothing. R101: a PASS that
was being sent as the port entered CLEARING opens no exchange; the seize starts. -/
def Obligations.AnExchangeOpensWhenItsPassIsSent : Prop :=
  ∀ (s : State) (p : PortId),
    let x := s.port p
    let lent := { x with
      holder := .tile, rx := .resting, tx := .idle, pendingAnswer := none
      counts := { x.counts with exchanges := bump x.counts.exchanges } }
    let exchange (tag : Tag) (answers : Answers) (orphan : Bool) : Exchange :=
      { tag := tag, answers := answers, reply := none, errorWord := none, ackSeen := false
        badCheck := false, oversize := false, orphan := orphan }
    (∀ a, x.phase = .sending → x.tx = .passAnswer → x.pendingAnswer = some a →
      let opened := s.setPort p { lent with
        phase := .waiting, exchange := some (exchange a.tag a.answers a.link.isNone)
        answerTimer := some x.answerTimeout }
      (a.link = none → exec (.exchangeOpen p) s = .next opened)
      ∧ ∀ k r, a.link = some k → s.record k = some r → r.state = .opened →
          exec (.exchangeOpen p) s = .next (opened.setRecord k (some { r with
            parts := r.parts.map fun q =>
              if q.port = p ∧ q.state = .queued then { q with state := .awaiting } else q })))
    ∧ (x.phase = .ready → x.tx = .passWatch →
        exec (.watchOpen p) s = .next (s.setPort p { lent with
          phase := .watching, exchange := some (exchange 0 .watch false) }))
    ∧ (∀ d, x.phase = .clearing d →
        let seized := s.setPort p { x with holder := .tile, seize := some 20, tx := .idle, rx := .resting }
        (x.tx = .passAnswer → exec (.exchangeOpen p) s = .next seized)
        ∧ (x.tx = .passWatch → exec (.watchOpen p) s = .next seized))

/-- R11, R24: the judgement of a packet from a tile, by its header, its payload check, its kind and its
Length. -/
def Obligations.PacketsFromATileAreJudged : Prop :=
  ∀ (x : TilePacket),
    (judgeHeader x.header = none → tileVerdict x = .badHeader)
    ∧ ∀ h, judgeHeader x.header = some h → x.payload.length = h.length →
        (x.payload ≠ [] → crc16 x.payload ≠ x.check → tileVerdict x = .badPacket)
        ∧ ((x.payload ≠ [] → crc16 x.payload = x.check) →
            (h.kind = 0x40 → h.length = 0 → tileVerdict x = .badPacket)
            ∧ (h.kind = 0x40 → 1 ≤ h.length → tileVerdict x = .reply h.tag x.payload)
            ∧ (h.kind = 0x45 → h.length ≠ 2 → tileVerdict x = .badPacket)
            ∧ (∀ b c, h.kind = 0x45 → x.payload = [b, c] → tileVerdict x = .fault h.tag (b ++ c))
            ∧ (h.kind ≠ 0x40 → h.kind ≠ 0x45 → tileVerdict x = .stray))

/-- R91: a REPLY during an exchange. One that matches is stored when it fits the Return limit that the
exchange took from its READ piece, and sets Oversize and is discarded otherwise; every other REPLY is
stray, counted and discarded. -/
def Obligations.AReplyIsStoredOversizeOrStray : Prop :=
  ∀ (s : State) (p : PortId) (packet : TilePacket) (e : Exchange) (tag : Tag) (data : List Byte),
    s.inBurstOf p e → packet.fits = true → tileVerdict packet = .reply tag data →
    let found := (∃ n, e.answers = .read n) ∧ e.tag = tag ∧ e.reply = none ∧ e.oversize = false
    (∀ n, found → e.answers = .read n → data.length ≤ n →
      exec (.replyArrival p packet) s
        = .next (s.setPort p { s.port p with exchange := some { e with reply := some data } }))
    ∧ (∀ n, found → e.answers = .read n → n < data.length →
        exec (.replyArrival p packet) s
          = .next (s.setPort p { s.port p with exchange := some { e with oversize := true } }))
    ∧ (¬ found → exec (.replyArrival p packet) s = .next (s.setPort p { s.port p with
        counts := { (s.port p).counts with
          strayAnswers := bump (s.port p).counts.strayAnswers } }))

/-- R92: a FAULT during an exchange. Its word is stored when the exchange answers a READ or a WRITE, the tags
agree and no word is stored yet; in any other case it is stray, counted and discarded. The exchange goes on
and keeps what it had gathered. -/
def Obligations.AFaultWordIsStoredOnceOrStray : Prop :=
  ∀ (s : State) (p : PortId) (packet : TilePacket) (e : Exchange) (tag : Tag) (word : Half),
    s.inBurstOf p e → packet.fits = true → tileVerdict packet = .fault tag word →
    let found := e.answers ≠ .watch ∧ e.tag = tag ∧ e.errorWord = none
    (found → exec (.faultArrival p packet) s
      = .next (s.setPort p { s.port p with exchange := some { e with errorWord := some word } }))
    ∧ (¬ found → exec (.faultArrival p packet) s = .next (s.setPort p { s.port p with
        counts := { (s.port p).counts with
          strayAnswers := bump (s.port p).counts.strayAnswers } }))

/-- R6, R24, R93: an ACK sets ACK-seen in a WRITE exchange that has seen none, and is stray in any other case.
A token error, a token in a burst or in DESYNC, and a good packet of a kind that a tile may not send are
counted as stray answers; nothing else changes, the exchange and the link included. That a token in DESYNC is a
token error on a tile link too is the model's inference (DEDUCED, unsafe, assumption log 12). -/
def Obligations.StrayAnswersAreOnlyCounted : Prop :=
  ∀ (s : State) (p : PortId) (e : Exchange),
    (s.port p).receives = true → (s.port p).exchange = some e →
    let stray := s.setPort p { s.port p with
      counts := { (s.port p).counts with strayAnswers := bump (s.port p).counts.strayAnswers } }
    ((s.port p).rx = .resting → e.answers = .write → e.ackSeen = false →
      exec (.ackToken p) s
        = .next (s.setPort p { s.port p with exchange := some { e with ackSeen := true } }))
    ∧ ((s.port p).rx = .resting → (e.answers ≠ .write ∨ e.ackSeen = true) →
        exec (.ackToken p) s = .next stray)
    ∧ (∀ code, (s.port p).rx = .resting → code ≠ 0xB4 → code ≠ 0x2D → code ≠ 0x63 →
        exec (.tileTokenError p code) s = .next stray)
    ∧ (∀ code, (s.port p).rx ≠ .resting →
        exec (.tileTokenError p code) s = .next stray ∧ exec (.ackToken p) s = .next stray
        ∧ exec (.syncToken p) s = .next stray ∧ exec (.tilePass p) s = .next stray)
    ∧ (∀ packet, (s.port p).rx = .inBurst → packet.fits = true → tileVerdict packet = .stray →
        exec (.tileStrayPacket p packet) s = .next stray)

/-- R15, R19, R20, R24, R94: the framing of a tile link. A burst open leaves the receiver in a burst, a close leaves
it resting, and a data symbol outside a burst desynchronises it, all without a count. A bad packet sets
Bad-check in the exchange and is counted; after a bad header the receiver is in DESYNC, after any other bad
packet it stays in the burst. A burst open or close that cuts a packet short makes one bad packet of it. -/
def Obligations.TileFramingMarksBadPackets : Prop :=
  ∀ (s : State) (p : PortId) (cut : List Byte) (b : Byte), (s.port p).receives = true →
    (cutFits cut = true → ((s.port p).rx = .inBurst → cut = []) →
      exec (.tileBurstOpen p cut) s = .next (s.setPort p { s.port p with rx := .inBurst })
      ∧ exec (.tileBurstClose p cut) s = .next (s.setPort p { s.port p with rx := .resting }))
    ∧ ((s.port p).rx = .resting →
        exec (.tileStrayData p b) s = .next (s.setPort p { s.port p with rx := .desync }))
    ∧ ∀ e, s.inBurstOf p e →
        let bad := { s.port p with
          exchange := some { e with badCheck := true }
          counts := { (s.port p).counts with badChecks := bump (s.port p).counts.badChecks } }
        (∀ packet, packet.fits = true → tileVerdict packet = .badHeader →
          exec (.tileBadPacket p packet) s = .next (s.setPort p { bad with rx := .desync }))
        ∧ (∀ packet, packet.fits = true → tileVerdict packet = .badPacket →
            exec (.tileBadPacket p packet) s = .next (s.setPort p bad))
        ∧ (cutFits cut = true → cut ≠ [] →
            exec (.tileBurstOpen p cut) s = .next (s.setPort p bad)
            ∧ exec (.tileBurstClose p cut) s = .next (s.setPort p { bad with rx := .resting }))

/-- R86, R89, R95: the tile's PASS ends the exchange. The hub holds the link, the timer stops, the failure
count is 0, the result goes to the table only from a READ or WRITE exchange that is no orphan, and the
READY port sends what waits, or watches when that is wanted. What is sent is on the wire at
this very event, by the model's choice (assumption log 19). -/
def Obligations.TheTilesPassEndsTheExchange : Prop :=
  ∀ (s : State) (p : PortId) (e : Exchange), s.restingAt p e → (s.port p).tx = .idle →
    let told := if e.answers ≠ .watch ∧ e.orphan = false then s.takeResult p e else s
    exec (.tilePass p) s = .next (told.setPort p
      (Port.readyToSend { s.port p with
        phase := .ready, holder := .hub, exchange := none, answerTimer := none, failures := 0 }
        (s.wanted p)))

/-- R116 to R118, R124, R125: what resolves a port record of an OPEN transaction, an exchange result with the
first outcome whose condition it meets or a flush notice with the outcome it names. A settled port record
keeps what it has. When none is left unresolved the record is DONE, its deadline stops, and its REPLY, if
a READ holds data, and its REPORT join the return queue one right after the other. The REPORT is the 3 + 5n bytes
of R183: request kind, Result 0, n, and for each port record its port, outcome code, flags and error word. -/
def Obligations.AResolutionSettlesAndCompletes : Prop :=
  ∀ (s : State) (p : PortId) (k : Tag) (r : Transaction), s.record k = some r → r.state = .opened →
    let partBytes (q : PortRecord) : List Byte :=
      let word := (q.errorWord.getD 0).toNat
      [byte q.port,
       match q.state with
       | .resolved .ack => 1 | .resolved .data => 2 | .resolved .fault => 3 | .resolved .noAnswer => 4
       | .resolved .oversize => 5 | .resolved .badCheck => 6 | .resolved .flushed => 7
       | .resolved .expired => 8 | .resolved .down => 9 | .queued => 0 | .awaiting => 0,
       byte ((if q.isPartial then 1 else 0) + (if q.errorWord.isSome then 2 else 0)),
       byte (word / 256), byte word]
    let resolved (o : PartOutcome) (isPartial : Bool) (word : Option Half)
        (data : Option (List Byte)) : State :=
      let parts := r.parts.map fun q =>
        if q.port = p ∧ q.settled = false then
          { q with state := .resolved o, isPartial := isPartial, errorWord := word } else q
      if parts.all PortRecord.settled then
        let d := { r with parts := parts, data := data, state := .done, deadline := none }
        let report : Entry :=
          { kind := .report, tag := k, stream := r.stream, slot := .reportOf k
            payload := [match r.kind with | .read => 0x21 | .write => 0x20, 0, byte parts.length]
              ++ parts.flatMap partBytes }
        let answers := match r.kind, data with
          | .read, some bytes =>
            [{ kind := .reply, tag := k, stream := r.stream, payload := bytes, slot := .replyOf k },
             report]
          | _, _ => [report]
        let ret := { s.ret with entries := s.ret.entries ++ answers }
        { s with txns := { s.txns with records := s.txns.records.set k (some d) }
                 ret := { ret with attention := ret.callsHost } }
      else { s with txns := { s.txns with
        records := s.txns.records.set k (some { r with parts := parts, data := data }) } }
    (∀ e : Exchange, e.tag = k →
      s.takeResult p e = resolved
        (if e.badCheck then .badCheck else if e.oversize then .oversize
         else if e.errorWord.isSome then .fault
         else match e.answers with
           | .read _ => if e.reply.isSome then .data else .noAnswer
           | .write  => if e.ackSeen then .ack else .noAnswer
           | .watch  => .noAnswer)
        false e.errorWord
        (match e.answers with
         | .read _ => if e.reply.isSome then e.reply else r.data
         | .write | .watch => r.data))
    ∧ (∀ n : Notice, n.tag = k → s.takeNotice p n = resolved n.outcome n.isPartial none r.data)

/-- R89, R96, R98, R99: a failure, by the answer timer or by a collision outside a seize. It is counted, the
destination is chosen, the port is flushed with its limit state NONE, and CLEARING begins with a seize,
since the tile holds the link; the notices of the flush go to the table. A collision in DOWN is no
failure: the tile keeps the link. -/
def Obligations.AFailureFlushesAndSeizes : Prop :=
  ∀ (s : State) (p : PortId),
    let x := s.port p
    let failures := min (x.failures + 1) 7
    let dest : Destination := match x.phase with
      | .clearing (.down c) => .down c
      | _ => if x.failureLimit ≤ failures then .down .failed else .ready
    let failed (counts : PortCounts) : State :=
      (s.setPort p { x.swept with
        phase := .clearing dest, holder := .tile, seize := some 20, rx := .resting, tx := .idle
        failures := failures
        counts := { counts with
          failures := bump counts.failures, flushedPieces := x.swept.counts.flushedPieces } }).handNotices
        p (x.notices (match dest with | .ready => .failureToReady | .down _ => .failureToDown))
    let collided := { x.counts with collisions := bump x.counts.collisions }
    (x.phase = .waiting → x.answerTimer.isSome = true → x.holder = .tile →
      exec (.answerTimerExpiry p) s
        = .next (failed { x.counts with answerTimeouts := bump x.counts.answerTimeouts }))
    ∧ (x.holder = .hub → x.seize = none → x.isDown = false →
        exec (.tileCollision p) s = .next (failed collided))
    ∧ (x.holder = .hub → x.seize = none → x.isDown = true →
        exec (.tileCollision p) s
          = .next (s.setPort p { x with holder := .tile, tx := .idle, counts := collided }))

/-- R100, R119: the notices of a flush. The transaction of an open exchange that is no orphan, or of the
pending answer, stands first, with Partial set; then one for each transaction with linked pieces in the
queue, each once, in the order in which their first pieces stood there, with Partial exactly when a piece of it
was on the wire or its WRITE pieces lack an index. The outcomes are, for the first and for the others:
NO-ANSWER and FLUSHED at a failure with destination READY, DOWN and DOWN at one with destination DOWN and at a
PORT-STOP, FLUSHED and FLUSHED at a PORT-RESTART. A hub clear makes none. -/
def Obligations.AFlushNotifiesEachTransactionOnce : Prop :=
  ∀ (x : Port) (why : FlushCause) (own : Option Tag),
    own = (match x.exchange with
      | some e => if e.answers ≠ .watch ∧ e.orphan = false then some e.tag else none
      | none   => x.pendingAnswer.bind PendingAnswer.link) →
    let outcomes : Option (PartOutcome × PartOutcome) := match why with
      | .failureToReady => some (.noAnswer, .flushed)
      | .failureToDown  => some (.down, .down)
      | .stop           => some (.down, .down)
      | .restart        => some (.flushed, .flushed)
      | .hubClear       => none
    (outcomes = none → x.notices why = [])
    ∧ ∀ first others, outcomes = some (first, others) → ∃ queued, x.notices why
          = (own.map fun k => ({ tag := k, outcome := first, isPartial := true } : Notice)).toList
            ++ queued
        ∧ queued.map Notice.tag = (x.queue.filterMap Piece.link).eraseDups
        ∧ (queued.map Notice.tag).Nodup
        ∧ (∀ k, k ∈ queued.map Notice.tag ↔ ∃ y ∈ x.queue, y.link = some k)
        ∧ ∀ n ∈ queued, n.outcome = others
            ∧ (n.isPartial = true ↔ (∃ y, x.onWire = some y ∧ y.link = some n.tag)
                ∨ lacksIndex (x.queue.filter fun y => y.link == some n.tag) = true)

/-- R10, R86, R102, R171: a seize that completes gives the hub the link, and CLEAR is sent at once. The CLEAR sent
toward READY: the port is READY and sends what waits, or watches when that
is wanted; an owed RESTART is answered first, with destination READY. What is sent is on the wire at this very
event, by the model's choice (assumption log 19). -/
def Obligations.ClearingTowardReadyReturnsToService : Prop :=
  ∀ (s : State) (p : PortId),
    ((s.port p).seize.isSome = true → exec (.seizeComplete p) s
      = .next (s.setPort p { s.port p with seize := none, holder := .hub, tx := .clear }))
    ∧ ((s.port p).phase = .clearing .ready → (s.port p).tx = .clear →
    let ready := s.setPort p (Port.readyToSend { s.port p with phase := .ready, tx := .idle, owed := .none }
      (s.wanted p))
    ((s.port p).owed = .none → exec (.clearSent p) s = .next ready)
    ∧ (∀ c, (s.port p).owed = .restart → s.agent.inExecution = some c →
        exec (.clearSent p) s = .next { ready with
          agent := { s.agent with inExecution := none }, ret := s.ret.answered c 0 [1] }))

/-- R102, R103, R170, R171: the CLEAR sent toward DOWN. The port is DOWN with its destination's cause; PORT-DOWN
is requested, then the sync groups are told, then an owed STOP is answered with the cause; an owed RESTART
is answered with destination DOWN ahead of them all. -/
def Obligations.AClearSentTowardDownLeavesService : Prop :=
  ∀ (s : State) (p : PortId) (cause : Cause), (s.port p).phase = .clearing (.down cause) →
    (s.port p).tx = .clear →
    let code : Byte := match cause with | .failed => 1 | .stopped => 2
    let down (u : State) : State :=
      ((u.setPort p { s.port p with phase := .down cause, tx := .idle, owed := .none }).requestsEvent
        [5, byte p, code]).memberDown p
    ((s.port p).owed = .none → exec (.clearSent p) s = .next (down s))
    ∧ (∀ c, (s.port p).owed = .stop → s.agent.inExecution = some c →
        exec (.clearSent p) s = .next { down s with
          agent := { s.agent with inExecution := none }, ret := (down s).ret.answered c 0 [code] })
    ∧ (∀ c, (s.port p).owed = .restart → s.agent.inExecution = some c →
        exec (.clearSent p) s = .next (down { s with
          agent := { s.agent with inExecution := none }, ret := s.ret.answered c 0 [5] }))

/-! ### Deadlines and sync groups (Chapters 6 and 8) -/

/-- R121, R124: the deadline of an OPEN record expires. QUEUED port records have their pieces withdrawn and are
EXPIRED, partial as the port says; AWAITING ones have their exchange made an orphan and are EXPIRED and
partial; settled ones are kept. The record is DONE and its answers are queued. R85: a withdrawal takes the
transaction's pieces out of the queue, but for the piece on the wire, which loses its link; a pending answer that
names the transaction loses its link and nothing else, and any other stays as it is; the port answers that the request had started exactly when the piece on the wire or the pending answer was
of it, or the removed pieces of its WRITE lack an index; nothing else of the port changes. -/
def Obligations.ADeadlineExpiresTheOpenParts : Prop :=
  (∀ (s : State) (k : Tag) (r : Transaction), s.record k = some r → r.state = .opened →
    r.deadline.isSome = true → (r.parts.map PortRecord.port).Nodup →
    ∃ t, exec (.deadlineExpiry k) s = .next t
    ∧ (∀ q, t.port q = match r.parts.find? fun y => y.port = q with
        | some y => (match y.state with
          | .queued     => (s.port q).withdraw k
          | .awaiting   => { s.port q with
              exchange := (s.port q).exchange.map fun e => { e with orphan := true } }
          | .resolved _ => s.port q)
        | none => s.port q)
    ∧ (let d : Transaction := { r with
          state := .done, deadline := none
          parts := r.parts.map fun y => match y.state with
            | .queued     => { y with state := .resolved .expired
                                      isPartial := (s.port y.port).hasStarted k }
            | .awaiting   => { y with state := .resolved .expired, isPartial := true }
            | .resolved _ => y }
       t.record k = some d
       ∧ t.ret.entries = s.ret.entries ++ d.completionEntries k)
    ∧ (∀ j, j ≠ k → t.record j = s.record j)
    ∧ t.ret.attention = t.ret.callsHost
    ∧ { t with ports := s.ports, txns := s.txns, ret := s.ret } = s
    ∧ t.txns.deadlineMs = s.txns.deadlineMs
    ∧ { t.ret with entries := s.ret.entries, attention := s.ret.attention } = s.ret)
  ∧ ∀ (x : Port) (k : Tag),
    let y := x.withdraw k
    let waiting := if x.onWire.isSome then x.queue.tail else x.queue
    (∀ z ∈ y.queue, z.link ≠ some k)
    ∧ y.pendingAnswer
        = x.pendingAnswer.map (fun a => if a.link = some k then { a with link := none } else a)
    ∧ y.queue = (match x.onWire with
        | some z => [if z.link = some k then { z with link := none } else z]
        | none   => []) ++ waiting.filter (fun z => z.link != some k)
    ∧ (x.hasStarted k = true ↔ (∃ z, x.onWire = some z ∧ z.link = some k)
        ∨ (∃ a, x.pendingAnswer = some a ∧ a.link = some k)
        ∨ lacksIndex (waiting.filter fun z => z.link == some k) = true)
    ∧ { y with queue := x.queue, pendingAnswer := x.pendingAnswer } = x

/-- R152, R153: a SYNC token between bursts of a port that receives. It is unwatched when no armed group has the
port as a member; early, when the port has reported in this round; otherwise it joins the round, whose first
report starts the window timer, and the round ends when every present member has reported. -/
def Obligations.ASyncTokenJoinsTheRound : Prop :=
  ∀ (s : State) (p : PortId), (s.port p).receives = true → (s.port p).rx = .resting →
    ((∀ g, PortSet.has (s.group g).members p = true → (s.group g).mode = .off) →
      exec (.syncToken p) s = .next { s with
        sync := { s.sync with unwatchedSyncs := bump s.sync.unwatchedSyncs } })
    ∧ ∀ g, s.memberOf p g → (s.group g).mode ≠ .off →
        let x := s.group g
        let joined : SyncGroup := { x with
          reported := x.reported ||| (1#4 <<< p.val)
          timer := if x.reported = 0 then some x.window else x.timer }
        (PortSet.has x.reported p = true → exec (.syncToken p) s
          = .next (s.setGroup g { x with earlySyncs := bump x.earlySyncs }))
        ∧ (PortSet.has x.reported p = false → s.allPresentIn g joined.reported →
            exec (.syncToken p) s = .next ((s.setGroup g joined).roundEnds g))
        ∧ (PortSet.has x.reported p = false → ¬ s.allPresentIn g joined.reported →
            exec (.syncToken p) s = .next (s.setGroup g joined))

/-- R154: the window timer of a group expires: SYNC-SPLIT with the ports that reported is requested, the splits count
goes up, and the round is empty; round number and mode are unchanged. R155: what an armed group does when one of
its members has gone DOWN. Without a present member it goes OFF with GROUP-OFF and an empty round; with every
present member in the reported set its round ends; otherwise the round goes on. A port of no armed group changes nothing. -/
def Obligations.RoundsEndBySplitOrLossOfAMember : Prop :=
  (∀ (s : State) (g : GroupId), (s.group g).timer.isSome = true →
    exec (.syncWindowExpiry g) s = .next
      ((s.requestsEvent [3, byte g, byte (s.group g).reported.toNat]).setGroup g
        { s.group g with reported := 0, timer := none, splits := bump (s.group g).splits }))
  ∧ ∀ (s : State) (p : PortId),
    ((∀ g, PortSet.has (s.group g).members p = true → (s.group g).mode = .off) → s.memberDown p = s)
    ∧ ∀ g, s.memberOf p g → (s.group g).mode ≠ .off →
        ((∀ q, PortSet.has (s.group g).members q = true → (s.port q).isDown = true) →
          s.memberDown p = (s.requestsEvent [4, byte g]).setGroup g
            { s.group g with mode := .off, reported := 0, timer := none })
        ∧ (s.allPresentIn g (s.group g).reported → s.memberDown p = s.roundEnds g)
        ∧ ((∃ q, PortSet.has (s.group g).members q = true ∧ (s.port q).isDown = false
              ∧ PortSet.has (s.group g).reported q = false) → s.memberDown p = s)

/-! ### The management agent (Chapter 9) -/

/-- R165, R185: a code that names none of the seventeen commands is answered UNKNOWN. A command whose payload has
not the length of its layout is answered BAD-ARG, whatever else holds, and nothing but the agent and the return
queue changes. INFO is answered with the identity of the part. -/
def Obligations.WrongCodesAndLengthsAreAnsweredOnly : Prop :=
  ∀ (s : State) (c : MgmtCommand) (rest : List MgmtCommand) (code : Byte) (args : List Byte),
    s.offers c rest → c.payload = code :: args →
    ((code = 0 ∨ 0x12 ≤ code.toNat) → exec .unknownCommand s = .next (s.taken c rest 6 []))
    ∧ (code = 0x01 → args = [] →
        exec .info s = .next (s.taken c rest 0 [0x54, 0x34, 1, 4, 31, 16, 64, 0x20, 0x00, 16]))
    ∧ ∀ i n, (code, i, n) ∈ ([(0x01, .info, 0), (0x03, .stageOff, 1), (0x04, .stageCopy, 0),
          (0x05, .readEntry, 2), (0x07, .commitCancel, 0), (0x08, .portSet, 4), (0x09, .portStop, 1),
          (0x0A, .portRestart, 1), (0x0B, .portRead, 1), (0x0C, .syncSet, 5), (0x0D, .syncRead, 1),
          (0x0E, .returnSet, 4), (0x0F, .tagRead, 1), (0x10, .countersRead, 2),
          (0x11, .countersClear, 2)] : List (Byte × Instr × Nat)) →
        args.length ≠ n → exec i s = .next (s.taken c rest 3 [])

/-- R30, R165, R186: STAGE-ENTRY of a stream id and an entry. No id, an id outside 0..30 or a wrong length is
answered BAD-ARG; while a commit is pending the answer is BUSY; an entry that fails R29 is answered BAD-ENTRY;
otherwise the staged entry of that id is replaced and the answer is DONE. -/
def Obligations.StageEntryReplacesOneStagedEntry : Prop :=
  ∀ (s : State) (c : MgmtCommand) (rest : List MgmtCommand) (id : Byte) (entry : List Byte),
    s.offers c rest → (c.payload = [0x02] → exec .stageEntry s = .next (s.taken c rest 3 [])) ∧
    (c.payload = 0x02 :: id :: entry →
    ((31 ≤ id.toNat ∨ entryLengthOk entry = false) →
      exec .stageEntry s = .next (s.taken c rest 3 []))
    ∧ (id.toNat ≤ 30 → entryLengthOk entry = true → s.table.commit = .pendingFrame →
        exec .stageEntry s = .next (s.taken c rest 2 []))
    ∧ (id.toNat ≤ 30 → entryLengthOk entry = true → s.table.commit = .none → judgeEntry entry = none →
        exec .stageEntry s = .next (s.taken c rest 4 []))
    ∧ (∀ e, id.toNat ≤ 30 → entryLengthOk entry = true → s.table.commit = .none →
        judgeEntry entry = some e →
        exec .stageEntry s = .next
          (({ s with table := { s.table with
                staged := s.table.staged.setIfInBounds id.toNat e } }).taken c rest 0 [])))

/-- R31: STAGE-OFF of a stream id. An id outside 0..30 is answered BAD-ARG; while a commit is pending the answer
is BUSY; otherwise the staged entry of that id becomes OFF and the answer is DONE. An entry that is OFF
already stays so. -/
def Obligations.StageOffTurnsOneStagedEntryOff : Prop :=
  ∀ (s : State) (c : MgmtCommand) (rest : List MgmtCommand) (id : Byte), s.offers c rest →
    c.payload = [0x03, id] →
    (31 ≤ id.toNat → exec .stageOff s = .next (s.taken c rest 3 []))
    ∧ (id.toNat ≤ 30 → s.table.commit = .pendingFrame →
        exec .stageOff s = .next (s.taken c rest 2 []))
    ∧ (id.toNat ≤ 30 → s.table.commit = .none →
        exec .stageOff s = .next
          (({ s with table := { s.table with
                staged := s.table.staged.setIfInBounds id.toNat .off } }).taken c rest 0 []))
    ∧ (id.toNat ≤ 30 → s.table.commit = .none → s.table.staged[id.toNat]? = some .off →
        exec .stageOff s = .next (s.taken c rest 0 []))

/-- R32: STAGE-COPY replaces the staged bank by the active bank and is answered DONE, so that the two banks are
equal; while a commit is pending it is answered BUSY and changes no bank. A commit in the other direction
gives the same banks only when the banks were equal. -/
def Obligations.StageCopyCopiesTheActiveBank : Prop :=
  ∀ (s : State) (c : MgmtCommand) (rest : List MgmtCommand), s.offers c rest → c.payload = [0x04] →
    let copied := { s.table with staged := s.table.active }
    (s.table.commit = .pendingFrame → exec .stageCopy s = .next (s.taken c rest 2 []))
    ∧ (s.table.commit = .none →
        exec .stageCopy s = .next (({ s with table := copied }).taken c rest 0 []))
    ∧ (copied = { s.table with active := s.table.staged } → s.table.active = s.table.staged)

/-- R36, R37, R39, R43, R44: the commit commands. While a commit is pending COMMIT is answered BUSY, and
COMMIT-CANCEL ends it with DONE; in NONE, COMMIT NOW copies the staged bank into the active bank with DONE,
COMMIT AT-FRAME makes the commit pending with PENDING, and COMMIT-CANCEL is answered NO-COMMIT. A COMMIT of
another form or length is answered BAD-ARG; that it is the row COMMIT_NOW is the model's choice (assumption
log 6). -/
def Obligations.CommitsAreTakenMadePendingOrCancelled : Prop :=
  ∀ (s : State) (c : MgmtCommand) (rest : List MgmtCommand), s.offers c rest →
    (c.payload = [0x06, 0] → exec .commitNow s = .next
      (if s.table.commit = .pendingFrame then s.taken c rest 2 []
       else ({ s with table := { s.table with active := s.table.staged } }).taken c rest 0 []))
    ∧ (c.payload = [0x06, 1] → exec .commitAtFrame s = .next
        (if s.table.commit = .pendingFrame then s.taken c rest 2 []
         else ({ s with table := { s.table with commit := .pendingFrame } }).taken c rest 1 []))
    ∧ (c.payload = [0x07] → exec .commitCancel s = .next
        (if s.table.commit = .pendingFrame then
           ({ s with table := { s.table with commit := .none } }).taken c rest 0 []
         else s.taken c rest 5 []))
    ∧ (∀ args, c.payload = 0x06 :: args → args ≠ [0] → args.head? ≠ some 1 →
        exec .commitNow s = .next (s.taken c rest 3 []))
    ∧ (∀ args, c.payload = 0x06 :: 1 :: args → args ≠ [] →
        exec .commitAtFrame s = .next (s.taken c rest 3 []))

/-- R33, R128, R158, R169, R176, R185, R186: the commands that read. Each is answered DONE with what it names as it
stands, in the bytes of R185 and R186, or BAD-ARG when its number is out of range, and changes nothing.
READ-ENTRY: an OFF entry as one byte, an ON entry in the layout of its class. PORT-READ: 12 bytes. SYNC-READ: 10
bytes. TAG-READ: one byte, or 8 + 6n bytes. COUNTERS-READ: 4 bytes for each count of the block, in order. -/
def Obligations.ReadsChangeNothing : Prop :=
  ∀ (s : State) (c : MgmtCommand) (rest : List MgmtCommand) (n b : Byte), s.offers c rest →
    let two (x : Nat) : List Byte := [byte (x / 256), byte x]
    let four (x : Count) : List Byte :=
      [byte (x.toNat / 16777216), byte (x.toNat / 65536), byte (x.toNat / 256), byte x.toNat]
    let entryBytes (e : StreamEntry) : List Byte := match e with
      | .off => [0]
      | .on members out (.pixel size windows) => [1, 1, byte members.toNat, byte out, byte size]
          ++ windows.toList.flatMap fun w => match w with
            | some w => two w.firstColumn ++ two w.width ++ two w.firstLine ++ two w.height
            | none   => []
      | .on members out (.command size limit pairs) => [1, 2, byte members.toNat, byte out]
          ++ two size ++ two limit ++ [byte pairs.length]
          ++ pairs.flatMap fun x => [x.lead, x.continuation]
    let portBytes (x : Port) : List Byte :=
      [match x.phase with
        | .clearing _ => 0 | .ready => 1 | .sending => 2 | .waiting => 3 | .watching => 4 | .down _ => 5,
       match x.phase with
        | .clearing .ready => 1 | .clearing (.down _) => 5
        | .ready => 0 | .sending => 0 | .waiting => 0 | .watching => 0 | .down _ => 0,
       match x.phase with
        | .clearing (.down .failed) => 1 | .clearing (.down .stopped) => 2
        | .down .failed => 1 | .down .stopped => 2
        | .clearing .ready => 0 | .ready => 0 | .sending => 0 | .waiting => 0 | .watching => 0]
      ++ two x.answerTimeout ++ [byte x.failureLimit, byte x.queue.length]
      ++ two (x.queue.map fun y => y.payload.length).sum ++ [byte x.failures]
      ++ two (match x.limit with | some n => n | none => 0)
    let groupBytes (x : SyncGroup) : List Byte :=
      [byte x.members.toNat, match x.mode with | .off => 0 | .once => 1 | .repeating => 2]
      ++ two x.window
      ++ [byte x.reported.toNat, match x.timer with | some _ => 1 | none => 0]
      ++ two (match x.timer with | some n => n | none => 0) ++ two x.roundNumber
    let partBytes (q : PortRecord) : List Byte :=
      [byte q.port,
       match q.state with | .queued => 0 | .awaiting => 1 | .resolved _ => 2,
       match q.state with
       | .resolved .ack => 1 | .resolved .data => 2 | .resolved .fault => 3 | .resolved .noAnswer => 4
       | .resolved .oversize => 5 | .resolved .badCheck => 6 | .resolved .flushed => 7
       | .resolved .expired => 8 | .resolved .down => 9 | .queued => 0 | .awaiting => 0,
       byte ((if q.isPartial then 1 else 0) + (if q.errorWord.isSome then 2 else 0))]
      ++ two (q.errorWord.getD 0).toNat
    let tagBytes (r : Option Transaction) : List Byte := match r with
      | none   => [0]
      | some x =>
        [match x.state with | .opened => 1 | .done => 2,
         match x.kind with | .read => 0x21 | .write => 0x20, byte x.stream]
        ++ two (match x.state, x.deadline with
          | .opened, some micros => (micros + 999) / 1000
          | .opened, none => 0
          | .done, _ => 0)
        ++ two (match x.data with | some d => d.length | none => 0)
        ++ [byte x.parts.length] ++ x.parts.flatMap partBytes
    let portCounts (x : PortCounts) : List Count :=
      [x.piecesSent, x.bursts, x.exchanges, x.answerTimeouts, x.collisions, x.failures, x.strayAnswers,
       x.badChecks, x.flushedPieces]
    let syncCounts (x : SyncGroup) : List Count := [x.rounds, x.splits, x.earlySyncs]
    let u := s.upstream.counts
    let counts : Option (List Count) :=
      if n = 1 ∧ b = 0 then some [u.headerErrors, u.payloadErrors, u.kindErrors, u.desyncBursts,
        u.truncatedPackets, u.tokenErrors, u.collisions, u.hubClears]
      else if n = 2 then (s.streamCounts b.toNat).map fun x => [x.admitted, x.refused, x.unmappedLines]
      else if n = 3 ∧ b = 0 then some s.ingress.refusals.toList
      else if n = 4 then (s.ports[b.toNat]?).map fun x => portCounts x.counts
      else if n = 5 ∧ b = 0 then
        some [s.ret.counts.reportsLost, s.ret.counts.eventsLost, s.ret.counts.mgmtDiscarded]
      else if n = 6 ∧ b = 0 then some (syncCounts (s.group 0) ++ syncCounts (s.group 1)
        ++ syncCounts (s.group 2) ++ syncCounts (s.group 3) ++ [s.sync.unwatchedSyncs])
      else none
    (c.payload = [0x05, n, b] →
      exec .readEntry s = .next (if h : n.toNat < 31 then
          (if b = 0 then s.taken c rest 0 (entryBytes s.table.active[n.toNat])
           else if b = 1 then s.taken c rest 0 (entryBytes s.table.staged[n.toNat])
           else s.taken c rest 3 [])
        else s.taken c rest 3 []))
    ∧ (c.payload = [0x0B, n] →
        exec .portRead s = .next (if h : n.toNat < 4 then
            s.taken c rest 0 (portBytes (s.port ⟨n.toNat, h⟩))
          else s.taken c rest 3 []))
    ∧ (c.payload = [0x0D, n] →
        exec .syncRead s = .next (if h : n.toNat < 4 then
            s.taken c rest 0 (groupBytes (s.group ⟨n.toNat, h⟩))
          else s.taken c rest 3 []))
    ∧ (c.payload = [0x0F, n] →
        exec .tagRead s = .next (if h : n.toNat < 16 then
            s.taken c rest 0 (tagBytes (s.record ⟨n.toNat, h⟩))
          else s.taken c rest 3 []))
    ∧ (c.payload = [0x10, n, b] →
        exec .countersRead s = .next (match counts with
          | some block => s.taken c rest 0 (block.flatMap four)
          | none       => s.taken c rest 3 []))

/-- R108, R169: PORT-SET gives a port its answer timeout of 10..50,000 µs and its failure limit of 1..7 and is
answered DONE; nothing else of the port changes, a running timer included. A value out of range is answered
BAD-ARG and none is taken. -/
def Obligations.PortSetChangesTwoSettings : Prop :=
  ∀ (s : State) (c : MgmtCommand) (rest : List MgmtCommand) (n t1 t0 limit : Byte), s.offers c rest →
    c.payload = [0x08, n, t1, t0, limit] →
    let timeout := t1.toNat * 256 + t0.toNat
    (∀ p : PortId, n.toNat = p.val → 10 ≤ timeout → timeout ≤ 50000 → 1 ≤ limit.toNat →
      limit.toNat ≤ 7 →
      exec .portSet s = .next ((s.setPort p { s.port p with
        answerTimeout := timeout, failureLimit := limit.toNat }).taken c rest 0 []))
    ∧ ((4 ≤ n.toNat ∨ timeout < 10 ∨ 50000 < timeout ∨ limit.toNat = 0 ∨ 7 < limit.toNat) →
        exec .portSet s = .next (s.taken c rest 3 []))

/-- R101, R105, R164, R170: PORT-STOP. A number that is no port is answered BAD-ARG. A DOWN port is answered at
once with its cause. A port CLEARING toward DOWN owes the notice. Any other port is flushed with outcome DOWN,
its destination is DOWN with cause STOPPED, and it enters or goes on with its clearing; the command is held
until the port is DOWN. -/
def Obligations.PortStopTakesThePortOutOfService : Prop :=
  ∀ (s : State) (c : MgmtCommand) (rest : List MgmtCommand) (n : Byte), s.offers c rest →
    c.payload = [0x09, n] →
    (4 ≤ n.toNat → exec .portStop s = .next (s.taken c rest 3 []))
    ∧ ∀ p : PortId, n.toNat = p.val →
    let x := s.port p
    let stopping (y : Port) : State := ((s.held c rest).setPort p { y with
      phase := .clearing (.down .stopped), owed := .stop }).handNotices p (x.notices .stop)
    (∀ cause, x.phase = .down cause → exec .portStop s = .next
      (s.taken c rest 0 [match cause with | .failed => 1 | .stopped => 2]))
    ∧ (∀ cause, x.phase = .clearing (.down cause) →
        exec .portStop s = .next ((s.held c rest).setPort p { x with owed := .stop }))
    ∧ (x.phase = .clearing .ready → exec .portStop s = .next (stopping x.swept))
    ∧ ((∀ d, x.phase ≠ .clearing d) → (∀ cause, x.phase ≠ .down cause) →
        exec .portStop s = .next (stopping { x.swept with
          holder := x.linkAtClearing.1, seize := x.linkAtClearing.2.1, tx := x.linkAtClearing.2.2
          rx := x.rxAtClearing }))

/-- R101, R106, R107, R164, R171: PORT-RESTART. A number that is no port is answered BAD-ARG. A DOWN port clears
toward READY with failure count 0, and one CLEARING toward DOWN goes on toward READY with failure count 0. A
live port is flushed with outcome FLUSHED and enters or goes on with its clearing, its failure count kept. The
command is held until the CLEAR has been sent. -/
def Obligations.PortRestartClearsTowardReady : Prop :=
  ∀ (s : State) (c : MgmtCommand) (rest : List MgmtCommand) (n : Byte), s.offers c rest →
    c.payload = [0x0A, n] →
    (4 ≤ n.toNat → exec .portRestart s = .next (s.taken c rest 3 []))
    ∧ ∀ p : PortId, n.toNat = p.val →
    let x := s.port p
    let toReady (y : Port) : State :=
      (s.held c rest).setPort p { y with phase := .clearing .ready, owed := .restart }
    let entering (y : Port) : Port := { y with
      holder := x.linkAtClearing.1, seize := x.linkAtClearing.2.1, tx := x.linkAtClearing.2.2
      rx := x.rxAtClearing }
    (∀ cause, x.phase = .down cause →
      exec .portRestart s = .next (toReady { entering x with failures := 0 }))
    ∧ (∀ cause, x.phase = .clearing (.down cause) →
        exec .portRestart s = .next (toReady { x with failures := 0 }))
    ∧ (x.phase = .clearing .ready →
        exec .portRestart s = .next ((toReady x.swept).handNotices p (x.notices .restart)))
    ∧ ((∀ d, x.phase ≠ .clearing d) → (∀ cause, x.phase ≠ .down cause) →
        exec .portRestart s = .next
          ((toReady (entering x.swept)).handNotices p (x.notices .restart)))

/-- R149, R150, R157, R172: SYNC-SET of a group, a member set, a mode (0 OFF, 1 ONCE, 2 REPEAT) and a window. An
argument out of range, a member set that names a port of another group, or an armed mode without members, is
answered BAD-ARG. Otherwise the group takes its members, mode and window with an empty round, goes OFF with
GROUP-OFF when it is armed without a present member, the ports whose wish to watch changed judge what to do,
and the answer is DONE. -/
def Obligations.SyncSetGivesAGroupItsSettings : Prop :=
  ∀ (s : State) (c : MgmtCommand) (rest : List MgmtCommand) (n m b w1 w0 : Byte), s.offers c rest →
    c.payload = [0x0C, n, m, b, w1, w0] →
    let window := w1.toNat * 256 + w0.toNat
    ((4 ≤ n.toNat ∨ 16 ≤ m.toNat ∨ 3 ≤ b.toNat ∨ window = 0) →
      exec .syncSet s = .next (s.taken c rest 3 []))
    ∧ ∀ (group : GroupId) (members : PortSet) (mode : GroupMode), n.toNat = group.val →
        m.toNat = members.toNat → b = (match mode with | .off => 0 | .once => 1 | .repeating => 2) →
        1 ≤ window →
    let bad := (∃ g p, g ≠ group ∧ PortSet.has (s.group g).members p = true
        ∧ PortSet.has members p = true) ∨ (mode ≠ .off ∧ members = 0)
    let base := s.setGroup group { s.group group with
      members := members, mode := mode, window := window, reported := 0, timer := none }
    let off := mode ≠ .off ∧ ∀ p, PortSet.has members p = true → (s.port p).isDown = true
    let set := if off then
        (base.requestsEvent [4, byte group]).setGroup group { base.group group with mode := .off }
      else base
    (bad → exec .syncSet s = .next (s.taken c rest 3 []))
    ∧ (¬ bad → ∃ t, exec .syncSet s = .next t
        ∧ (∀ p, t.port p = if set.wanted p = s.wanted p then s.port p
            else (s.port p).judge (set.wanted p))
        ∧ { t with ports := s.ports } = ({ set with ports := s.ports }).taken c rest 0 [])

/-- R165, R173: RETURN-SET takes the return budget, the attention mask and the transaction deadline together and is
answered DONE, with ATTNn judged under the new mask; a value out of range, or a mask that names anything else,
is answered BAD-ARG and none of the three changes. -/
def Obligations.ReturnSetTakesAllThreeValuesOrNone : Prop :=
  ∀ (s : State) (c : MgmtCommand) (rest : List MgmtCommand) (budget mask d1 d0 : Byte),
    s.offers c rest → c.payload = [0x0E, budget, mask, d1, d0] →
    let deadline := d1.toNat * 256 + d0.toNat
    let good := 1 ≤ budget.toNat ∧ budget.toNat ≤ 32 ∧ mask.toNat < 16 ∧ deadline ≤ 1000
    (good → exec .returnSet s = .next (({ s with
      ret := { s.ret with
        budget := budget.toNat
        mask := { completion := mask.getLsbD 0, mgmtReply := mask.getLsbD 1
                  event := mask.getLsbD 2, lost := mask.getLsbD 3 } }
      txns := { s.txns with deadlineMs := deadline } }).taken c rest 0 []))
    ∧ (¬ good → exec .returnSet s = .next (s.taken c rest 3 []))

/-- R177: COUNTERS-CLEAR sets every count of the block it names to 0 and is answered DONE. Counts of other blocks
and the state that a count describes are not touched. -/
def Obligations.CountersClearZeroesOneBlock : Prop :=
  ∀ (s : State) (c : MgmtCommand) (rest : List MgmtCommand) (args : List Byte), s.offers c rest →
    c.payload = 0x11 :: args →
    (counterBlockArgs args = none → exec .countersClear s = .next (s.taken c rest 3 []))
    ∧ ∀ b, counterBlockArgs args = some b → ∃ t : State,
        exec .countersClear s = .next (t.taken c rest 0 [])
        ∧ (∀ x ∈ t.countsOf b, x = 0) ∧ (∀ d, d ≠ b → t.countsOf d = s.countsOf d)
        ∧ t.table = s.table ∧ t.txns = s.txns ∧ t.agent = s.agent ∧ t.pending = s.pending
        ∧ { t.upstream with counts := s.upstream.counts } = s.upstream
        ∧ { t.ret with counts := s.ret.counts } = s.ret
        ∧ (∀ p, { t.port p with counts := (s.port p).counts } = s.port p)
        ∧ (∀ g, { t.group g with
              rounds := (s.group g).rounds, splits := (s.group g).splits
              earlySyncs := (s.group g).earlySyncs } = s.group g)

/-! ### Layouts -/

/-- R11, R181, R182: a header of fields in their ranges, composed with its check, is judged good and gives every
field back; a Length above 4096, another check byte, or a spare bit makes it bad. -/
def Obligations.HeadersAreReadAsTheyAreComposed : Prop :=
  ∀ (kind : Byte) (stream : Nat) (ackRequest : Bool) (tag : Tag) (line column length : Nat) (b : Byte),
    stream < 32 → line < 4096 → column < 8192 → length < 2 ^ 27 →
    let header := composeHeader kind stream ackRequest tag line column length
    judgeHeader header = (if length ≤ 4096 then
      some { kind := kind, stream := stream, ackRequest := ackRequest, tag := tag, line := line
             column := column, length := length }
      else none)
    ∧ (b ≠ crc8 (header.take 9) → judgeHeader (header.take 9 ++ [b]) = none)
    ∧ ((1 ≤ b.toNat ∧ b.toNat < 4) →
        let spare := (header.take 9).set 1 ((header.getD 1 0) ||| b)
        judgeHeader (spare ++ [crc8 spare]) = none)

/-- R29, R186: a valid entry is offered in its own layout with the right length, and judging it gives the same
entry back, so that READ-ENTRY returns what STAGE-ENTRY took. -/
def Obligations.EntriesAreReadAsTheyAreEncoded : Prop :=
  ∀ e : StreamEntry, e.valid = true →
    entryLengthOk e.encode = true ∧ judgeEntry e.encode = some e ∧ e.encode.length ≤ 62

/-! ### What every step keeps -/

/-- R145: at every step ATTNn is asserted exactly while an entry waits whose kind an enabled item covers, or
the lost flag is set and LOST is enabled; after a reset it is deasserted. -/
def Obligations.AttentionFollowsTheReturnQueue : Prop :=
  State.reset.ret.attention = false
  ∧ ∀ s t : State,
    let follows (q : ReturnQueue) : Prop := q.attention = true ↔
      (∃ e ∈ q.entries, (match e.kind with
        | .reply     => q.mask.completion
        | .report    => q.mask.completion
        | .mgmtReply => q.mask.mgmtReply
        | .event     => q.mask.event) = true)
      ∨ (q.lost ≠ .clear ∧ q.mask.lost = true)
    follows s.ret → step s = .next t → follows t.ret

/-- R22, R81, R133, R135, R139 to R141, R161, R164, R173: the shared part never holds or reserves more than
16 slots, each reservation belongs to one accepted command, and at most four wait; a turn runs exactly while the hub is the
holder, the entry on the wire stands at the head of the return queue and is within the budget, and a packet
is in progress only in a burst of the host; a port owes the agent a notice exactly while the agent holds the
deferred command that named the port. -/
def Obligations.SlotsAndTurnsStaySound : Prop :=
  ∀ s t : State, s.slotsSound → s.upstreamSound → s.noticesOwed → step s = .next t →
    t.slotsSound ∧ t.upstreamSound ∧ t.noticesOwed

/-- R25, R148, R149, R152: every entry of either bank meets the conditions of R29 at all times; reports come from
members, a window timer runs exactly while its round is not empty, the round of an OFF group is empty, and no
port is a member of two groups. -/
def Obligations.BanksAndGroupsStayValid : Prop :=
  ∀ s t : State, s.tableSound → s.groupsSound → step s = .next t → t.tableSound ∧ t.groupsSound

/-- R83, R86, R109: an egress queue never holds more than 64 pieces or more than 8192 payload bytes, and a READY
port that sends nothing has an empty queue and is not wanted to watch. -/
def Obligations.QueuesKeepTheirLimitsAndAreServed : Prop :=
  ∀ s t : State, s.queuesFit → s.noPortDawdles → step s = .next t → t.queuesFit ∧ t.noPortDawdles

/-- R1, R81, R82, R88 to R90, R96, R101, R103: each state of a port goes with its holder, seize, exchange, pending
answer, timer and transmission, and a port's numbers keep their ranges. A pending answer is for a READ or a WRITE.
That the receiver rests while the hub holds the link is the model's choice (DESIGN CHOICE, unsafe, assumption
log 18). -/
def Obligations.EveryPortKeepsToItsState : Prop :=
  ∀ s t : State, s.portsSound → step s = .next t → t.portsSound

/-- R112, R113, R124, R127, R133, R134, R137: an OPEN record has a part unresolved and empty slots, a DONE one
has none and its REPORT in its slot, a free tag has nothing in its slots, and a REPLY is immediately followed by the
REPORT of the same tag. -/
def Obligations.RecordsAgreeWithTheirSlots : Prop :=
  ∀ s t : State, s.recordsSound → step s = .next t → t.recordsSound

/-- R84, R103, R115: while the ports, the records and the banks are sound, links and port records stay in
agreement: every linked piece, pending answer and exchange names an OPEN record in the state that fits it, and
every unresolved port record is backed by its answer-required piece, its pending answer or its open exchange. -/
def Obligations.LinksAndPortRecordsAgree : Prop :=
  ∀ s t : State, s.portsSound → s.recordsSound → s.tableSound → s.linksSound → step s = .next t →
    t.linksSound

/-- The state after reset meets every invariant stated here. -/
def Obligations.ResetMeetsTheInvariants : Prop :=
  State.reset.portsSound ∧ State.reset.queuesFit ∧ State.reset.noPortDawdles ∧ State.reset.tableSound
  ∧ State.reset.groupsSound ∧ State.reset.slotsSound ∧ State.reset.upstreamSound
  ∧ State.reset.recordsSound ∧ State.reset.linksSound ∧ State.reset.noticesOwed

/-- R131: each of the eighteen rows of port `p`, of what the hub has sent to the tile, of what the tile sends or
does, and of the port's timers, leaves the other ports as they are, and the port records of the other ports keep
their state in every record. -/
def Obligations.ARowOfOnePortLeavesTheOthersAlone : Prop :=
  ∀ (s t : State) (p q : PortId) (i : Instr), p ≠ q →
    (i ∈ [.pieceSent p, .exchangeOpen p, .watchOpen p, .tilePass p, .tileCollision p,
        .answerTimerExpiry p, .seizeComplete p, .clearSent p, .syncToken p, .ackToken p]
      ∨ (∃ packet, i ∈ [.replyArrival p packet, .faultArrival p packet, .tileBadPacket p packet,
          .tileStrayPacket p packet])
      ∨ (∃ cut, i ∈ [.tileBurstOpen p cut, .tileBurstClose p cut])
      ∨ ∃ b, i ∈ [.tileTokenError p b, .tileStrayData p b]) →
    exec i s = .next t →
    t.port q = s.port q
    ∧ ∀ k r, s.record k = some r → ∃ d, t.record k = some d
        ∧ d.parts.filter (fun y => y.port == q) = r.parts.filter fun y => y.port == q

/-! ### Counts (section 9.4) -/

/-- R175: one more on a count of a counter block: it goes up by one, stops at 4,294,967,295 and does not
wrap. -/
def Obligations.ACountGoesUpByOneAndStops : Prop :=
  ∀ x : Count, (bump x).toNat = if x.toNat = 4294967295 then 4294967295 else x.toNat + 1

end
end

