-- ==== Sys2Proof/Laws/State.lean ====
section
/-! SUPPORT. One lemma per field per update of the state, and what each reader gives after each writer,
so that no proof unfolds a record update. -/

namespace Sys2Proof.Machine

variable (s : State)

/-! ### withUpstream -/

@[simp] theorem State.withUpstream_upstream (x : Upstream) : (s.withUpstream x).upstream = x := rfl
@[simp] theorem State.withUpstream_table (x : Upstream) : (s.withUpstream x).table = s.table := rfl
@[simp] theorem State.withUpstream_ports (x : Upstream) : (s.withUpstream x).ports = s.ports := rfl
@[simp] theorem State.withUpstream_txns (x : Upstream) : (s.withUpstream x).txns = s.txns := rfl
@[simp] theorem State.withUpstream_ret (x : Upstream) : (s.withUpstream x).ret = s.ret := rfl
@[simp] theorem State.withUpstream_sync (x : Upstream) : (s.withUpstream x).sync = s.sync := rfl
@[simp] theorem State.withUpstream_agent (x : Upstream) : (s.withUpstream x).agent = s.agent := rfl
@[simp] theorem State.withUpstream_ingress (x : Upstream) :
    (s.withUpstream x).ingress = s.ingress := rfl
@[simp] theorem State.withUpstream_pending (x : Upstream) :
    (s.withUpstream x).pending = s.pending := rfl

/-! ### withTable -/

@[simp] theorem State.withTable_upstream (x : StreamTable) :
    (s.withTable x).upstream = s.upstream := rfl
@[simp] theorem State.withTable_table (x : StreamTable) : (s.withTable x).table = x := rfl
@[simp] theorem State.withTable_ports (x : StreamTable) : (s.withTable x).ports = s.ports := rfl
@[simp] theorem State.withTable_txns (x : StreamTable) : (s.withTable x).txns = s.txns := rfl
@[simp] theorem State.withTable_ret (x : StreamTable) : (s.withTable x).ret = s.ret := rfl
@[simp] theorem State.withTable_sync (x : StreamTable) : (s.withTable x).sync = s.sync := rfl
@[simp] theorem State.withTable_agent (x : StreamTable) : (s.withTable x).agent = s.agent := rfl
@[simp] theorem State.withTable_ingress (x : StreamTable) :
    (s.withTable x).ingress = s.ingress := rfl
@[simp] theorem State.withTable_pending (x : StreamTable) :
    (s.withTable x).pending = s.pending := rfl

/-! ### withPorts -/

@[simp] theorem State.withPorts_upstream (x : Vector Port 4) :
    (s.withPorts x).upstream = s.upstream := rfl
@[simp] theorem State.withPorts_table (x : Vector Port 4) : (s.withPorts x).table = s.table := rfl
@[simp] theorem State.withPorts_ports (x : Vector Port 4) : (s.withPorts x).ports = x := rfl
@[simp] theorem State.withPorts_txns (x : Vector Port 4) : (s.withPorts x).txns = s.txns := rfl
@[simp] theorem State.withPorts_ret (x : Vector Port 4) : (s.withPorts x).ret = s.ret := rfl
@[simp] theorem State.withPorts_sync (x : Vector Port 4) : (s.withPorts x).sync = s.sync := rfl
@[simp] theorem State.withPorts_agent (x : Vector Port 4) : (s.withPorts x).agent = s.agent := rfl
@[simp] theorem State.withPorts_ingress (x : Vector Port 4) :
    (s.withPorts x).ingress = s.ingress := rfl
@[simp] theorem State.withPorts_pending (x : Vector Port 4) :
    (s.withPorts x).pending = s.pending := rfl

/-! ### withTxns -/

@[simp] theorem State.withTxns_upstream (x : TransactionTable) :
    (s.withTxns x).upstream = s.upstream := rfl
@[simp] theorem State.withTxns_table (x : TransactionTable) : (s.withTxns x).table = s.table := rfl
@[simp] theorem State.withTxns_ports (x : TransactionTable) : (s.withTxns x).ports = s.ports := rfl
@[simp] theorem State.withTxns_txns (x : TransactionTable) : (s.withTxns x).txns = x := rfl
@[simp] theorem State.withTxns_ret (x : TransactionTable) : (s.withTxns x).ret = s.ret := rfl
@[simp] theorem State.withTxns_sync (x : TransactionTable) : (s.withTxns x).sync = s.sync := rfl
@[simp] theorem State.withTxns_agent (x : TransactionTable) : (s.withTxns x).agent = s.agent := rfl
@[simp] theorem State.withTxns_ingress (x : TransactionTable) :
    (s.withTxns x).ingress = s.ingress := rfl
@[simp] theorem State.withTxns_pending (x : TransactionTable) :
    (s.withTxns x).pending = s.pending := rfl

/-! ### withRet -/

@[simp] theorem State.withRet_upstream (x : ReturnQueue) :
    (s.withRet x).upstream = s.upstream := rfl
@[simp] theorem State.withRet_table (x : ReturnQueue) : (s.withRet x).table = s.table := rfl
@[simp] theorem State.withRet_ports (x : ReturnQueue) : (s.withRet x).ports = s.ports := rfl
@[simp] theorem State.withRet_txns (x : ReturnQueue) : (s.withRet x).txns = s.txns := rfl
@[simp] theorem State.withRet_ret (x : ReturnQueue) : (s.withRet x).ret = x := rfl
@[simp] theorem State.withRet_sync (x : ReturnQueue) : (s.withRet x).sync = s.sync := rfl
@[simp] theorem State.withRet_agent (x : ReturnQueue) : (s.withRet x).agent = s.agent := rfl
@[simp] theorem State.withRet_ingress (x : ReturnQueue) : (s.withRet x).ingress = s.ingress := rfl
@[simp] theorem State.withRet_pending (x : ReturnQueue) : (s.withRet x).pending = s.pending := rfl

/-! ### withSync -/

@[simp] theorem State.withSync_upstream (x : SyncBlock) :
    (s.withSync x).upstream = s.upstream := rfl
@[simp] theorem State.withSync_table (x : SyncBlock) : (s.withSync x).table = s.table := rfl
@[simp] theorem State.withSync_ports (x : SyncBlock) : (s.withSync x).ports = s.ports := rfl
@[simp] theorem State.withSync_txns (x : SyncBlock) : (s.withSync x).txns = s.txns := rfl
@[simp] theorem State.withSync_ret (x : SyncBlock) : (s.withSync x).ret = s.ret := rfl
@[simp] theorem State.withSync_sync (x : SyncBlock) : (s.withSync x).sync = x := rfl
@[simp] theorem State.withSync_agent (x : SyncBlock) : (s.withSync x).agent = s.agent := rfl
@[simp] theorem State.withSync_ingress (x : SyncBlock) : (s.withSync x).ingress = s.ingress := rfl
@[simp] theorem State.withSync_pending (x : SyncBlock) : (s.withSync x).pending = s.pending := rfl

/-! ### withAgent -/

@[simp] theorem State.withAgent_upstream (x : Agent) : (s.withAgent x).upstream = s.upstream := rfl
@[simp] theorem State.withAgent_table (x : Agent) : (s.withAgent x).table = s.table := rfl
@[simp] theorem State.withAgent_ports (x : Agent) : (s.withAgent x).ports = s.ports := rfl
@[simp] theorem State.withAgent_txns (x : Agent) : (s.withAgent x).txns = s.txns := rfl
@[simp] theorem State.withAgent_ret (x : Agent) : (s.withAgent x).ret = s.ret := rfl
@[simp] theorem State.withAgent_sync (x : Agent) : (s.withAgent x).sync = s.sync := rfl
@[simp] theorem State.withAgent_agent (x : Agent) : (s.withAgent x).agent = x := rfl
@[simp] theorem State.withAgent_ingress (x : Agent) : (s.withAgent x).ingress = s.ingress := rfl
@[simp] theorem State.withAgent_pending (x : Agent) : (s.withAgent x).pending = s.pending := rfl

/-! ### withIngress -/

@[simp] theorem State.withIngress_upstream (x : IngressCounts) :
    (s.withIngress x).upstream = s.upstream := rfl
@[simp] theorem State.withIngress_table (x : IngressCounts) :
    (s.withIngress x).table = s.table := rfl
@[simp] theorem State.withIngress_ports (x : IngressCounts) :
    (s.withIngress x).ports = s.ports := rfl
@[simp] theorem State.withIngress_txns (x : IngressCounts) : (s.withIngress x).txns = s.txns := rfl
@[simp] theorem State.withIngress_ret (x : IngressCounts) : (s.withIngress x).ret = s.ret := rfl
@[simp] theorem State.withIngress_sync (x : IngressCounts) : (s.withIngress x).sync = s.sync := rfl
@[simp] theorem State.withIngress_agent (x : IngressCounts) :
    (s.withIngress x).agent = s.agent := rfl
@[simp] theorem State.withIngress_ingress (x : IngressCounts) : (s.withIngress x).ingress = x := rfl
@[simp] theorem State.withIngress_pending (x : IngressCounts) :
    (s.withIngress x).pending = s.pending := rfl

/-! ### withPending -/

@[simp] theorem State.withPending_upstream (x : List Instr) :
    (s.withPending x).upstream = s.upstream := rfl
@[simp] theorem State.withPending_table (x : List Instr) : (s.withPending x).table = s.table := rfl
@[simp] theorem State.withPending_ports (x : List Instr) : (s.withPending x).ports = s.ports := rfl
@[simp] theorem State.withPending_txns (x : List Instr) : (s.withPending x).txns = s.txns := rfl
@[simp] theorem State.withPending_ret (x : List Instr) : (s.withPending x).ret = s.ret := rfl
@[simp] theorem State.withPending_sync (x : List Instr) : (s.withPending x).sync = s.sync := rfl
@[simp] theorem State.withPending_agent (x : List Instr) : (s.withPending x).agent = s.agent := rfl
@[simp] theorem State.withPending_ingress (x : List Instr) :
    (s.withPending x).ingress = s.ingress := rfl
@[simp] theorem State.withPending_pending (x : List Instr) : (s.withPending x).pending = x := rfl

/-! ### setPort -/

@[simp] theorem State.setPort_upstream (p : PortId) (x : Port) :
    (s.setPort p x).upstream = s.upstream := rfl
@[simp] theorem State.setPort_table (p : PortId) (x : Port) : (s.setPort p x).table = s.table := rfl
@[simp] theorem State.setPort_txns (p : PortId) (x : Port) : (s.setPort p x).txns = s.txns := rfl
@[simp] theorem State.setPort_ret (p : PortId) (x : Port) : (s.setPort p x).ret = s.ret := rfl
@[simp] theorem State.setPort_sync (p : PortId) (x : Port) : (s.setPort p x).sync = s.sync := rfl
@[simp] theorem State.setPort_agent (p : PortId) (x : Port) : (s.setPort p x).agent = s.agent := rfl
@[simp] theorem State.setPort_ingress (p : PortId) (x : Port) :
    (s.setPort p x).ingress = s.ingress := rfl
@[simp] theorem State.setPort_pending (p : PortId) (x : Port) :
    (s.setPort p x).pending = s.pending := rfl

/-! ### setRecord -/

@[simp] theorem State.setRecord_upstream (t : Tag) (x : Option Transaction) :
    (s.setRecord t x).upstream = s.upstream := rfl
@[simp] theorem State.setRecord_table (t : Tag) (x : Option Transaction) :
    (s.setRecord t x).table = s.table := rfl
@[simp] theorem State.setRecord_ports (t : Tag) (x : Option Transaction) :
    (s.setRecord t x).ports = s.ports := rfl
@[simp] theorem State.setRecord_ret (t : Tag) (x : Option Transaction) :
    (s.setRecord t x).ret = s.ret := rfl
@[simp] theorem State.setRecord_sync (t : Tag) (x : Option Transaction) :
    (s.setRecord t x).sync = s.sync := rfl
@[simp] theorem State.setRecord_agent (t : Tag) (x : Option Transaction) :
    (s.setRecord t x).agent = s.agent := rfl
@[simp] theorem State.setRecord_ingress (t : Tag) (x : Option Transaction) :
    (s.setRecord t x).ingress = s.ingress := rfl
@[simp] theorem State.setRecord_pending (t : Tag) (x : Option Transaction) :
    (s.setRecord t x).pending = s.pending := rfl

/-! ### setGroup -/

@[simp] theorem State.setGroup_upstream (g : GroupId) (x : SyncGroup) :
    (s.setGroup g x).upstream = s.upstream := rfl
@[simp] theorem State.setGroup_table (g : GroupId) (x : SyncGroup) :
    (s.setGroup g x).table = s.table := rfl
@[simp] theorem State.setGroup_ports (g : GroupId) (x : SyncGroup) :
    (s.setGroup g x).ports = s.ports := rfl
@[simp] theorem State.setGroup_txns (g : GroupId) (x : SyncGroup) :
    (s.setGroup g x).txns = s.txns := rfl
@[simp] theorem State.setGroup_ret (g : GroupId) (x : SyncGroup) :
    (s.setGroup g x).ret = s.ret := rfl
@[simp] theorem State.setGroup_agent (g : GroupId) (x : SyncGroup) :
    (s.setGroup g x).agent = s.agent := rfl
@[simp] theorem State.setGroup_ingress (g : GroupId) (x : SyncGroup) :
    (s.setGroup g x).ingress = s.ingress := rfl
@[simp] theorem State.setGroup_pending (g : GroupId) (x : SyncGroup) :
    (s.setGroup g x).pending = s.pending := rfl

/-! ### countUpstream -/

@[simp] theorem State.countUpstream_table (f : UpstreamCounts → UpstreamCounts) :
    (s.countUpstream f).table = s.table := rfl
@[simp] theorem State.countUpstream_ports (f : UpstreamCounts → UpstreamCounts) :
    (s.countUpstream f).ports = s.ports := rfl
@[simp] theorem State.countUpstream_txns (f : UpstreamCounts → UpstreamCounts) :
    (s.countUpstream f).txns = s.txns := rfl
@[simp] theorem State.countUpstream_ret (f : UpstreamCounts → UpstreamCounts) :
    (s.countUpstream f).ret = s.ret := rfl
@[simp] theorem State.countUpstream_sync (f : UpstreamCounts → UpstreamCounts) :
    (s.countUpstream f).sync = s.sync := rfl
@[simp] theorem State.countUpstream_agent (f : UpstreamCounts → UpstreamCounts) :
    (s.countUpstream f).agent = s.agent := rfl
@[simp] theorem State.countUpstream_ingress (f : UpstreamCounts → UpstreamCounts) :
    (s.countUpstream f).ingress = s.ingress := rfl
@[simp] theorem State.countUpstream_pending (f : UpstreamCounts → UpstreamCounts) :
    (s.countUpstream f).pending = s.pending := rfl

/-! ### countPort -/

@[simp] theorem State.countPort_upstream (p : PortId) (f : PortCounts → PortCounts) :
    (s.countPort p f).upstream = s.upstream := rfl
@[simp] theorem State.countPort_table (p : PortId) (f : PortCounts → PortCounts) :
    (s.countPort p f).table = s.table := rfl
@[simp] theorem State.countPort_txns (p : PortId) (f : PortCounts → PortCounts) :
    (s.countPort p f).txns = s.txns := rfl
@[simp] theorem State.countPort_ret (p : PortId) (f : PortCounts → PortCounts) :
    (s.countPort p f).ret = s.ret := rfl
@[simp] theorem State.countPort_sync (p : PortId) (f : PortCounts → PortCounts) :
    (s.countPort p f).sync = s.sync := rfl
@[simp] theorem State.countPort_agent (p : PortId) (f : PortCounts → PortCounts) :
    (s.countPort p f).agent = s.agent := rfl
@[simp] theorem State.countPort_ingress (p : PortId) (f : PortCounts → PortCounts) :
    (s.countPort p f).ingress = s.ingress := rfl
@[simp] theorem State.countPort_pending (p : PortId) (f : PortCounts → PortCounts) :
    (s.countPort p f).pending = s.pending := rfl

/-! ### countStream -/

@[simp] theorem State.countStream_upstream (n : Nat) (f : StreamCounts → StreamCounts) :
    (s.countStream n f).upstream = s.upstream := rfl
@[simp] theorem State.countStream_table (n : Nat) (f : StreamCounts → StreamCounts) :
    (s.countStream n f).table = s.table := rfl
@[simp] theorem State.countStream_ports (n : Nat) (f : StreamCounts → StreamCounts) :
    (s.countStream n f).ports = s.ports := rfl
@[simp] theorem State.countStream_txns (n : Nat) (f : StreamCounts → StreamCounts) :
    (s.countStream n f).txns = s.txns := rfl
@[simp] theorem State.countStream_ret (n : Nat) (f : StreamCounts → StreamCounts) :
    (s.countStream n f).ret = s.ret := rfl
@[simp] theorem State.countStream_sync (n : Nat) (f : StreamCounts → StreamCounts) :
    (s.countStream n f).sync = s.sync := rfl
@[simp] theorem State.countStream_agent (n : Nat) (f : StreamCounts → StreamCounts) :
    (s.countStream n f).agent = s.agent := rfl
@[simp] theorem State.countStream_pending (n : Nat) (f : StreamCounts → StreamCounts) :
    (s.countStream n f).pending = s.pending := rfl

/-! ### countRefusal -/

@[simp] theorem State.countRefusal_upstream (r : RefusalReason) :
    (s.countRefusal r).upstream = s.upstream := rfl
@[simp] theorem State.countRefusal_table (r : RefusalReason) :
    (s.countRefusal r).table = s.table := rfl
@[simp] theorem State.countRefusal_ports (r : RefusalReason) :
    (s.countRefusal r).ports = s.ports := rfl
@[simp] theorem State.countRefusal_txns (r : RefusalReason) :
    (s.countRefusal r).txns = s.txns := rfl
@[simp] theorem State.countRefusal_ret (r : RefusalReason) : (s.countRefusal r).ret = s.ret := rfl
@[simp] theorem State.countRefusal_sync (r : RefusalReason) :
    (s.countRefusal r).sync = s.sync := rfl
@[simp] theorem State.countRefusal_agent (r : RefusalReason) :
    (s.countRefusal r).agent = s.agent := rfl
@[simp] theorem State.countRefusal_pending (r : RefusalReason) :
    (s.countRefusal r).pending = s.pending := rfl

/-! ### Readers after writers of other blocks -/

@[simp] theorem State.withUpstream_port (x : Upstream) (p : PortId) :
    (s.withUpstream x).port p = s.port p := rfl
@[simp] theorem State.withTable_port (x : StreamTable) (p : PortId) :
    (s.withTable x).port p = s.port p := rfl
@[simp] theorem State.withTxns_port (x : TransactionTable) (p : PortId) :
    (s.withTxns x).port p = s.port p := rfl
@[simp] theorem State.withRet_port (x : ReturnQueue) (p : PortId) :
    (s.withRet x).port p = s.port p := rfl
@[simp] theorem State.withSync_port (x : SyncBlock) (p : PortId) :
    (s.withSync x).port p = s.port p := rfl
@[simp] theorem State.withAgent_port (x : Agent) (p : PortId) :
    (s.withAgent x).port p = s.port p := rfl
@[simp] theorem State.withIngress_port (x : IngressCounts) (p : PortId) :
    (s.withIngress x).port p = s.port p := rfl
@[simp] theorem State.withPending_port (x : List Instr) (p : PortId) :
    (s.withPending x).port p = s.port p := rfl
@[simp] theorem State.setRecord_port (t : Tag) (x : Option Transaction) (p : PortId) :
    (s.setRecord t x).port p = s.port p := rfl
@[simp] theorem State.setGroup_port (g : GroupId) (x : SyncGroup) (p : PortId) :
    (s.setGroup g x).port p = s.port p := rfl
@[simp] theorem State.countUpstream_port (f : UpstreamCounts → UpstreamCounts) (p : PortId) :
    (s.countUpstream f).port p = s.port p := rfl
@[simp] theorem State.countStream_port (n : Nat) (f : StreamCounts → StreamCounts) (p : PortId) :
    (s.countStream n f).port p = s.port p := rfl
@[simp] theorem State.countRefusal_port (r : RefusalReason) (p : PortId) :
    (s.countRefusal r).port p = s.port p := rfl

@[simp] theorem State.withUpstream_record (x : Upstream) (t : Tag) :
    (s.withUpstream x).record t = s.record t := rfl
@[simp] theorem State.withTable_record (x : StreamTable) (t : Tag) :
    (s.withTable x).record t = s.record t := rfl
@[simp] theorem State.withPorts_record (x : Vector Port 4) (t : Tag) :
    (s.withPorts x).record t = s.record t := rfl
@[simp] theorem State.withRet_record (x : ReturnQueue) (t : Tag) :
    (s.withRet x).record t = s.record t := rfl
@[simp] theorem State.withSync_record (x : SyncBlock) (t : Tag) :
    (s.withSync x).record t = s.record t := rfl
@[simp] theorem State.withAgent_record (x : Agent) (t : Tag) :
    (s.withAgent x).record t = s.record t := rfl
@[simp] theorem State.withIngress_record (x : IngressCounts) (t : Tag) :
    (s.withIngress x).record t = s.record t := rfl
@[simp] theorem State.withPending_record (x : List Instr) (t : Tag) :
    (s.withPending x).record t = s.record t := rfl
@[simp] theorem State.setPort_record (p : PortId) (x : Port) (t : Tag) :
    (s.setPort p x).record t = s.record t := rfl
@[simp] theorem State.setGroup_record (g : GroupId) (x : SyncGroup) (t : Tag) :
    (s.setGroup g x).record t = s.record t := rfl
@[simp] theorem State.countUpstream_record (f : UpstreamCounts → UpstreamCounts) (t : Tag) :
    (s.countUpstream f).record t = s.record t := rfl
@[simp] theorem State.countPort_record (p : PortId) (f : PortCounts → PortCounts) (t : Tag) :
    (s.countPort p f).record t = s.record t := rfl
@[simp] theorem State.countStream_record (n : Nat) (f : StreamCounts → StreamCounts) (t : Tag) :
    (s.countStream n f).record t = s.record t := rfl
@[simp] theorem State.countRefusal_record (r : RefusalReason) (t : Tag) :
    (s.countRefusal r).record t = s.record t := rfl

@[simp] theorem State.withUpstream_tagHeld (x : Upstream) (t : Tag) :
    (s.withUpstream x).tagHeld t = s.tagHeld t := rfl
@[simp] theorem State.withTable_tagHeld (x : StreamTable) (t : Tag) :
    (s.withTable x).tagHeld t = s.tagHeld t := rfl
@[simp] theorem State.withPorts_tagHeld (x : Vector Port 4) (t : Tag) :
    (s.withPorts x).tagHeld t = s.tagHeld t := rfl
@[simp] theorem State.withRet_tagHeld (x : ReturnQueue) (t : Tag) :
    (s.withRet x).tagHeld t = s.tagHeld t := rfl
@[simp] theorem State.withSync_tagHeld (x : SyncBlock) (t : Tag) :
    (s.withSync x).tagHeld t = s.tagHeld t := rfl
@[simp] theorem State.withAgent_tagHeld (x : Agent) (t : Tag) :
    (s.withAgent x).tagHeld t = s.tagHeld t := rfl
@[simp] theorem State.withIngress_tagHeld (x : IngressCounts) (t : Tag) :
    (s.withIngress x).tagHeld t = s.tagHeld t := rfl
@[simp] theorem State.withPending_tagHeld (x : List Instr) (t : Tag) :
    (s.withPending x).tagHeld t = s.tagHeld t := rfl
@[simp] theorem State.setPort_tagHeld (p : PortId) (x : Port) (t : Tag) :
    (s.setPort p x).tagHeld t = s.tagHeld t := rfl
@[simp] theorem State.setGroup_tagHeld (g : GroupId) (x : SyncGroup) (t : Tag) :
    (s.setGroup g x).tagHeld t = s.tagHeld t := rfl
@[simp] theorem State.countUpstream_tagHeld (f : UpstreamCounts → UpstreamCounts) (t : Tag) :
    (s.countUpstream f).tagHeld t = s.tagHeld t := rfl
@[simp] theorem State.countPort_tagHeld (p : PortId) (f : PortCounts → PortCounts) (t : Tag) :
    (s.countPort p f).tagHeld t = s.tagHeld t := rfl
@[simp] theorem State.countStream_tagHeld (n : Nat) (f : StreamCounts → StreamCounts) (t : Tag) :
    (s.countStream n f).tagHeld t = s.tagHeld t := rfl
@[simp] theorem State.countRefusal_tagHeld (r : RefusalReason) (t : Tag) :
    (s.countRefusal r).tagHeld t = s.tagHeld t := rfl

@[simp] theorem State.withUpstream_group (x : Upstream) (g : GroupId) :
    (s.withUpstream x).group g = s.group g := rfl
@[simp] theorem State.withTable_group (x : StreamTable) (g : GroupId) :
    (s.withTable x).group g = s.group g := rfl
@[simp] theorem State.withPorts_group (x : Vector Port 4) (g : GroupId) :
    (s.withPorts x).group g = s.group g := rfl
@[simp] theorem State.withTxns_group (x : TransactionTable) (g : GroupId) :
    (s.withTxns x).group g = s.group g := rfl
@[simp] theorem State.withRet_group (x : ReturnQueue) (g : GroupId) :
    (s.withRet x).group g = s.group g := rfl
@[simp] theorem State.withAgent_group (x : Agent) (g : GroupId) :
    (s.withAgent x).group g = s.group g := rfl
@[simp] theorem State.withIngress_group (x : IngressCounts) (g : GroupId) :
    (s.withIngress x).group g = s.group g := rfl
@[simp] theorem State.withPending_group (x : List Instr) (g : GroupId) :
    (s.withPending x).group g = s.group g := rfl
@[simp] theorem State.setPort_group (p : PortId) (x : Port) (g : GroupId) :
    (s.setPort p x).group g = s.group g := rfl
@[simp] theorem State.setRecord_group (t : Tag) (x : Option Transaction) (g : GroupId) :
    (s.setRecord t x).group g = s.group g := rfl
@[simp] theorem State.countUpstream_group (f : UpstreamCounts → UpstreamCounts) (g : GroupId) :
    (s.countUpstream f).group g = s.group g := rfl
@[simp] theorem State.countPort_group (p : PortId) (f : PortCounts → PortCounts) (g : GroupId) :
    (s.countPort p f).group g = s.group g := rfl
@[simp] theorem State.countStream_group (n : Nat) (f : StreamCounts → StreamCounts) (g : GroupId) :
    (s.countStream n f).group g = s.group g := rfl
@[simp] theorem State.countRefusal_group (r : RefusalReason) (g : GroupId) :
    (s.countRefusal r).group g = s.group g := rfl

@[simp] theorem State.withUpstream_groupOf (x : Upstream) (p : PortId) :
    (s.withUpstream x).groupOf p = s.groupOf p := rfl
@[simp] theorem State.withTable_groupOf (x : StreamTable) (p : PortId) :
    (s.withTable x).groupOf p = s.groupOf p := rfl
@[simp] theorem State.withPorts_groupOf (x : Vector Port 4) (p : PortId) :
    (s.withPorts x).groupOf p = s.groupOf p := rfl
@[simp] theorem State.withTxns_groupOf (x : TransactionTable) (p : PortId) :
    (s.withTxns x).groupOf p = s.groupOf p := rfl
@[simp] theorem State.withRet_groupOf (x : ReturnQueue) (p : PortId) :
    (s.withRet x).groupOf p = s.groupOf p := rfl
@[simp] theorem State.withAgent_groupOf (x : Agent) (p : PortId) :
    (s.withAgent x).groupOf p = s.groupOf p := rfl
@[simp] theorem State.withIngress_groupOf (x : IngressCounts) (p : PortId) :
    (s.withIngress x).groupOf p = s.groupOf p := rfl
@[simp] theorem State.withPending_groupOf (x : List Instr) (p : PortId) :
    (s.withPending x).groupOf p = s.groupOf p := rfl
@[simp] theorem State.setPort_groupOf (q : PortId) (x : Port) (p : PortId) :
    (s.setPort q x).groupOf p = s.groupOf p := rfl
@[simp] theorem State.setRecord_groupOf (t : Tag) (x : Option Transaction) (p : PortId) :
    (s.setRecord t x).groupOf p = s.groupOf p := rfl
@[simp] theorem State.countUpstream_groupOf (f : UpstreamCounts → UpstreamCounts) (p : PortId) :
    (s.countUpstream f).groupOf p = s.groupOf p := rfl
@[simp] theorem State.countPort_groupOf (q : PortId) (f : PortCounts → PortCounts) (p : PortId) :
    (s.countPort q f).groupOf p = s.groupOf p := rfl
@[simp] theorem State.countStream_groupOf (n : Nat) (f : StreamCounts → StreamCounts) (p : PortId) :
    (s.countStream n f).groupOf p = s.groupOf p := rfl
@[simp] theorem State.countRefusal_groupOf (r : RefusalReason) (p : PortId) :
    (s.countRefusal r).groupOf p = s.groupOf p := rfl

@[simp] theorem State.withUpstream_wanted (x : Upstream) (p : PortId) :
    (s.withUpstream x).wanted p = s.wanted p := rfl
@[simp] theorem State.withTable_wanted (x : StreamTable) (p : PortId) :
    (s.withTable x).wanted p = s.wanted p := rfl
@[simp] theorem State.withPorts_wanted (x : Vector Port 4) (p : PortId) :
    (s.withPorts x).wanted p = s.wanted p := rfl
@[simp] theorem State.withTxns_wanted (x : TransactionTable) (p : PortId) :
    (s.withTxns x).wanted p = s.wanted p := rfl
@[simp] theorem State.withRet_wanted (x : ReturnQueue) (p : PortId) :
    (s.withRet x).wanted p = s.wanted p := rfl
@[simp] theorem State.withAgent_wanted (x : Agent) (p : PortId) :
    (s.withAgent x).wanted p = s.wanted p := rfl
@[simp] theorem State.withIngress_wanted (x : IngressCounts) (p : PortId) :
    (s.withIngress x).wanted p = s.wanted p := rfl
@[simp] theorem State.withPending_wanted (x : List Instr) (p : PortId) :
    (s.withPending x).wanted p = s.wanted p := rfl
@[simp] theorem State.setPort_wanted (q : PortId) (x : Port) (p : PortId) :
    (s.setPort q x).wanted p = s.wanted p := rfl
@[simp] theorem State.setRecord_wanted (t : Tag) (x : Option Transaction) (p : PortId) :
    (s.setRecord t x).wanted p = s.wanted p := rfl
@[simp] theorem State.countUpstream_wanted (f : UpstreamCounts → UpstreamCounts) (p : PortId) :
    (s.countUpstream f).wanted p = s.wanted p := rfl
@[simp] theorem State.countPort_wanted (q : PortId) (f : PortCounts → PortCounts) (p : PortId) :
    (s.countPort q f).wanted p = s.wanted p := rfl
@[simp] theorem State.countStream_wanted (n : Nat) (f : StreamCounts → StreamCounts) (p : PortId) :
    (s.countStream n f).wanted p = s.wanted p := rfl
@[simp] theorem State.countRefusal_wanted (r : RefusalReason) (p : PortId) :
    (s.countRefusal r).wanted p = s.wanted p := rfl

@[simp] theorem State.withUpstream_presentMembers (x : Upstream) (m : PortSet) :
    (s.withUpstream x).presentMembers m = s.presentMembers m := rfl
@[simp] theorem State.withTable_presentMembers (x : StreamTable) (m : PortSet) :
    (s.withTable x).presentMembers m = s.presentMembers m := rfl
@[simp] theorem State.withTxns_presentMembers (x : TransactionTable) (m : PortSet) :
    (s.withTxns x).presentMembers m = s.presentMembers m := rfl
@[simp] theorem State.withRet_presentMembers (x : ReturnQueue) (m : PortSet) :
    (s.withRet x).presentMembers m = s.presentMembers m := rfl
@[simp] theorem State.withSync_presentMembers (x : SyncBlock) (m : PortSet) :
    (s.withSync x).presentMembers m = s.presentMembers m := rfl
@[simp] theorem State.withAgent_presentMembers (x : Agent) (m : PortSet) :
    (s.withAgent x).presentMembers m = s.presentMembers m := rfl
@[simp] theorem State.withIngress_presentMembers (x : IngressCounts) (m : PortSet) :
    (s.withIngress x).presentMembers m = s.presentMembers m := rfl
@[simp] theorem State.withPending_presentMembers (x : List Instr) (m : PortSet) :
    (s.withPending x).presentMembers m = s.presentMembers m := rfl
@[simp] theorem State.setRecord_presentMembers (t : Tag) (x : Option Transaction) (m : PortSet) :
    (s.setRecord t x).presentMembers m = s.presentMembers m := rfl
@[simp] theorem State.setGroup_presentMembers (g : GroupId) (x : SyncGroup) (m : PortSet) :
    (s.setGroup g x).presentMembers m = s.presentMembers m := rfl
@[simp] theorem State.countUpstream_presentMembers (f : UpstreamCounts → UpstreamCounts) (m : PortSet) :
    (s.countUpstream f).presentMembers m = s.presentMembers m := rfl
@[simp] theorem State.countStream_presentMembers (n : Nat) (f : StreamCounts → StreamCounts) (m : PortSet) :
    (s.countStream n f).presentMembers m = s.presentMembers m := rfl
@[simp] theorem State.countRefusal_presentMembers (r : RefusalReason) (m : PortSet) :
    (s.countRefusal r).presentMembers m = s.presentMembers m := rfl

@[simp] theorem State.withUpstream_streamCounts (x : Upstream) (n : Nat) :
    (s.withUpstream x).streamCounts n = s.streamCounts n := rfl
@[simp] theorem State.withTable_streamCounts (x : StreamTable) (n : Nat) :
    (s.withTable x).streamCounts n = s.streamCounts n := rfl
@[simp] theorem State.withPorts_streamCounts (x : Vector Port 4) (n : Nat) :
    (s.withPorts x).streamCounts n = s.streamCounts n := rfl
@[simp] theorem State.withTxns_streamCounts (x : TransactionTable) (n : Nat) :
    (s.withTxns x).streamCounts n = s.streamCounts n := rfl
@[simp] theorem State.withRet_streamCounts (x : ReturnQueue) (n : Nat) :
    (s.withRet x).streamCounts n = s.streamCounts n := rfl
@[simp] theorem State.withSync_streamCounts (x : SyncBlock) (n : Nat) :
    (s.withSync x).streamCounts n = s.streamCounts n := rfl
@[simp] theorem State.withAgent_streamCounts (x : Agent) (n : Nat) :
    (s.withAgent x).streamCounts n = s.streamCounts n := rfl
@[simp] theorem State.withPending_streamCounts (x : List Instr) (n : Nat) :
    (s.withPending x).streamCounts n = s.streamCounts n := rfl
@[simp] theorem State.setPort_streamCounts (p : PortId) (x : Port) (n : Nat) :
    (s.setPort p x).streamCounts n = s.streamCounts n := rfl
@[simp] theorem State.setRecord_streamCounts (t : Tag) (x : Option Transaction) (n : Nat) :
    (s.setRecord t x).streamCounts n = s.streamCounts n := rfl
@[simp] theorem State.setGroup_streamCounts (g : GroupId) (x : SyncGroup) (n : Nat) :
    (s.setGroup g x).streamCounts n = s.streamCounts n := rfl
@[simp] theorem State.countUpstream_streamCounts (f : UpstreamCounts → UpstreamCounts) (n : Nat) :
    (s.countUpstream f).streamCounts n = s.streamCounts n := rfl
@[simp] theorem State.countPort_streamCounts (p : PortId) (f : PortCounts → PortCounts) (n : Nat) :
    (s.countPort p f).streamCounts n = s.streamCounts n := rfl

/-! ### Read after write -/

@[simp] theorem State.setPort_port_same (p : PortId) (x : Port) : (s.setPort p x).port p = x := by
  simp [State.port, State.setPort, State.withPorts]

theorem State.setPort_port_ne {p q : PortId} (x : Port) (h : q ≠ p) :
    (s.setPort p x).port q = s.port q := by
  have : p.val ≠ q.val := fun e => h (Fin.ext e.symm)
  simp [State.port, State.setPort, State.withPorts, this]

theorem State.setPort_port (p q : PortId) (x : Port) :
    (s.setPort p x).port q = if q = p then x else s.port q := by
  by_cases h : q = p
  · subst h; simp
  · simp [h, State.setPort_port_ne]

@[simp] theorem State.setPort_setPort (p : PortId) (x y : Port) :
    (s.setPort p x).setPort p y = s.setPort p y := by
  simp [State.setPort, State.withPorts]

@[simp] theorem State.setPort_self (p : PortId) : s.setPort p (s.port p) = s := by
  simp [State.setPort, State.withPorts, State.port]

@[simp] theorem State.setRecord_record_same (t : Tag) (x : Option Transaction) :
    (s.setRecord t x).record t = x := by
  simp [State.record, State.setRecord, State.withTxns]

theorem State.setRecord_record_ne {t k : Tag} (x : Option Transaction) (h : k ≠ t) :
    (s.setRecord t x).record k = s.record k := by
  have : t.val ≠ k.val := fun e => h (Fin.ext e.symm)
  simp [State.record, State.setRecord, State.withTxns, this]

theorem State.setRecord_record (t k : Tag) (x : Option Transaction) :
    (s.setRecord t x).record k = if k = t then x else s.record k := by
  by_cases h : k = t
  · subst h; simp
  · simp [h, State.setRecord_record_ne]

@[simp] theorem State.setRecord_deadlineMs (t : Tag) (x : Option Transaction) :
    (s.setRecord t x).txns.deadlineMs = s.txns.deadlineMs := rfl

@[simp] theorem State.setGroup_group_same (g : GroupId) (x : SyncGroup) :
    (s.setGroup g x).group g = x := by
  simp [State.group, State.setGroup, State.withSync]

theorem State.setGroup_group_ne {g k : GroupId} (x : SyncGroup) (h : k ≠ g) :
    (s.setGroup g x).group k = s.group k := by
  have : g.val ≠ k.val := fun e => h (Fin.ext e.symm)
  simp [State.group, State.setGroup, State.withSync, this]

theorem State.setGroup_group (g k : GroupId) (x : SyncGroup) :
    (s.setGroup g x).group k = if k = g then x else s.group k := by
  by_cases h : k = g
  · subst h; simp
  · simp [h, State.setGroup_group_ne]

@[simp] theorem State.setGroup_setGroup (g : GroupId) (x y : SyncGroup) :
    (s.setGroup g x).setGroup g y = s.setGroup g y := by
  simp [State.setGroup, State.withSync]

@[simp] theorem State.setGroup_self (g : GroupId) : s.setGroup g (s.group g) = s := by
  simp [State.setGroup, State.withSync, State.group]

@[simp] theorem State.setGroup_unwatchedSyncs (g : GroupId) (x : SyncGroup) :
    (s.setGroup g x).sync.unwatchedSyncs = s.sync.unwatchedSyncs := rfl

theorem State.countStream_streamCounts (n m : Nat) (f : StreamCounts → StreamCounts) :
    (s.countStream n f).streamCounts m
      = if m = n then (s.streamCounts m).map f else s.streamCounts m := by
  simp only [State.streamCounts, State.countStream, State.withIngress, Vector.getElem?_mapIdx]
  by_cases h : m = n <;> simp [h]

@[simp] theorem State.countStream_refusals (n : Nat) (f : StreamCounts → StreamCounts) :
    (s.countStream n f).ingress.refusals = s.ingress.refusals := rfl

@[simp] theorem State.countRefusal_streams (r : RefusalReason) :
    (s.countRefusal r).ingress.streams = s.ingress.streams := rfl

/-- A value for each of the four numbers is read back at each. -/
@[simp] theorem forFour_getElem {α : Type} (f : Fin 4 → α) (p : Fin 4) : (forFour f)[p.val] = f p := by
  match p with
  | 0 | 1 | 2 | 3 => rfl

end Sys2Proof.Machine
end

