-- ==== Sys2Proof/Laws/ReturnQueue.lean ====
section
/-! SUPPORT. What each operation of the return queue can do, said once. -/

namespace Sys2Proof.Machine

/-! ### Fields after a judgement, a push and a loss -/

variable (q : ReturnQueue)

@[simp] theorem ReturnQueue.judged_entries : q.judged.entries = q.entries := rfl
@[simp] theorem ReturnQueue.judged_reserved : q.judged.reserved = q.reserved := rfl
@[simp] theorem ReturnQueue.judged_lost : q.judged.lost = q.lost := rfl
@[simp] theorem ReturnQueue.judged_mask : q.judged.mask = q.mask := rfl
@[simp] theorem ReturnQueue.judged_budget : q.judged.budget = q.budget := rfl
@[simp] theorem ReturnQueue.judged_counts : q.judged.counts = q.counts := rfl
@[simp] theorem ReturnQueue.push_entries (e : Entry) : (q.push e).entries = q.entries ++ [e] := rfl
@[simp] theorem ReturnQueue.push_reserved (e : Entry) : (q.push e).reserved = q.reserved := rfl
@[simp] theorem ReturnQueue.push_lost (e : Entry) : (q.push e).lost = q.lost := rfl
@[simp] theorem ReturnQueue.push_mask (e : Entry) : (q.push e).mask = q.mask := rfl
@[simp] theorem ReturnQueue.push_budget (e : Entry) : (q.push e).budget = q.budget := rfl
@[simp] theorem ReturnQueue.push_counts (e : Entry) : (q.push e).counts = q.counts := rfl
@[simp] theorem ReturnQueue.lose_entries (f : ReturnCounts → ReturnCounts) :
    (q.lose f).entries = q.entries := rfl
@[simp] theorem ReturnQueue.lose_reserved (f : ReturnCounts → ReturnCounts) :
    (q.lose f).reserved = q.reserved := rfl
@[simp] theorem ReturnQueue.lose_lost (f : ReturnCounts → ReturnCounts) : (q.lose f).lost = .set := rfl
@[simp] theorem ReturnQueue.lose_mask (f : ReturnCounts → ReturnCounts) : (q.lose f).mask = q.mask := rfl
@[simp] theorem ReturnQueue.lose_budget (f : ReturnCounts → ReturnCounts) :
    (q.lose f).budget = q.budget := rfl
@[simp] theorem ReturnQueue.lose_counts (f : ReturnCounts → ReturnCounts) :
    (q.lose f).counts = f q.counts := rfl

/-- Attention depends on the entries, the lost flag and the mask only. -/
theorem ReturnQueue.callsHost_congr {q r : ReturnQueue} (he : r.entries = q.entries)
    (hl : r.lost = q.lost) (hm : r.mask = q.mask) : r.callsHost = q.callsHost := by
  simp only [ReturnQueue.callsHost, he, hl, hm]

@[simp] theorem ReturnQueue.judged_attention : q.judged.attention = q.judged.callsHost := rfl
@[simp] theorem ReturnQueue.push_attention (e : Entry) :
    (q.push e).attention = (q.push e).callsHost := rfl
@[simp] theorem ReturnQueue.lose_attention (f : ReturnCounts → ReturnCounts) :
    (q.lose f).attention = (q.lose f).callsHost := rfl

/-! ### Requests, replies and events -/

/-- A request for a shared slot takes a free one or is lost. -/
theorem ReturnQueue.request_eq_asked (e : Entry) (f : ReturnCounts → ReturnCounts) :
    q.request e f = q.asked e (f q.counts) := by
  simp only [ReturnQueue.request, ReturnQueue.asked]
  split <;> rfl

/-- After a request, attention follows the queue. -/
theorem ReturnQueue.asked_attention (e : Entry) (c : ReturnCounts) :
    (q.asked e c).attention = (q.asked e c).callsHost := rfl

/-- A reply of an accepted command joins the queue in its reserved slot, and nothing else changes. -/
theorem State.reply_eq (s : State) (c : MgmtCommand) (status : Status) (result : List Byte) :
    s.reply c status result = { s with
      ret := s.ret.answered c status.code (if status = .done then result else []) } := rfl

/-- An event asks for a shared slot, and nothing else changes. -/
theorem State.emit_eq (s : State) (e : HubEvent) : s.emit e = s.requestsEvent e.payload := by
  simp only [State.emit, State.requestsEvent, State.withRet, ReturnQueue.request_eq_asked]
  rfl

variable (s : State)

@[simp] theorem State.requestsEvent_upstream (b : List Byte) :
    (s.requestsEvent b).upstream = s.upstream := rfl
@[simp] theorem State.requestsEvent_table (b : List Byte) : (s.requestsEvent b).table = s.table := rfl
@[simp] theorem State.requestsEvent_ports (b : List Byte) : (s.requestsEvent b).ports = s.ports := rfl
@[simp] theorem State.requestsEvent_txns (b : List Byte) : (s.requestsEvent b).txns = s.txns := rfl
@[simp] theorem State.requestsEvent_sync (b : List Byte) : (s.requestsEvent b).sync = s.sync := rfl
@[simp] theorem State.requestsEvent_agent (b : List Byte) : (s.requestsEvent b).agent = s.agent := rfl
@[simp] theorem State.requestsEvent_ingress (b : List Byte) :
    (s.requestsEvent b).ingress = s.ingress := rfl
@[simp] theorem State.requestsEvent_pending (b : List Byte) :
    (s.requestsEvent b).pending = s.pending := rfl
@[simp] theorem State.requestsEvent_port (b : List Byte) (p : PortId) :
    (s.requestsEvent b).port p = s.port p := rfl
@[simp] theorem State.requestsEvent_group (b : List Byte) (g : GroupId) :
    (s.requestsEvent b).group g = s.group g := rfl
@[simp] theorem State.requestsEvent_record (b : List Byte) (t : Tag) :
    (s.requestsEvent b).record t = s.record t := rfl

/-! ### Ingress and the return queue -/

/-- The reason decides the place of its count. -/
theorem RefusalReason.place_inj (r q : RefusalReason) : q.place = r.place ↔ q = r := by
  cases q <;> cases r <;> simp [RefusalReason.place]

/-- Everything a refusal does. -/
theorem State.refuse_eq (h : Header) (tagged : Option RequestKind) (r : RefusalReason) :
    s.refuse h tagged r =
      ((s.countStream h.stream StreamCounts.refuse).countRefusal r).withRet
        (match tagged with
         | none      => s.ret
         | some kind => s.ret.asked (refusalEntry h.tag h.stream kind r) s.ret.counts.reportLost) := by
  cases tagged with
  | none => rfl
  | some kind =>
    simp only [State.refuse, State.reportRefusal, ReturnQueue.request_eq_asked]
    rfl

end Sys2Proof.Machine
end

