-- ==== Sys2Proof/Laws/SyncGroups.lean ====
section
/-! SUPPORT. What the operations of the sync groups can do, said once. -/

namespace Sys2Proof.Machine

/-! ### Sets and membership -/

/-- A port stands in the list of a set exactly when the set has it. -/
theorem PortSet.mem_toList (m : PortSet) (q : PortId) :
    q ∈ PortSet.toList m ↔ PortSet.has m q = true := by
  have hq : q ∈ allPorts := by
    match q with
    | 0 | 1 | 2 | 3 => decide
  simp only [PortSet.toList, List.mem_filter, hq, true_and]

/-- Four numbers that differ from `g` come before `g` is found. -/
theorem find_first {f : GroupId → Bool} {g : GroupId} (hg : f g = true)
    (ho : ∀ k, k ≠ g → f k = false) : ∀ l : List GroupId, g ∈ l → l.find? f = some g
  | [], h => absurd h List.not_mem_nil
  | a :: l, h => by
    by_cases ha : a = g
    · subst ha; simp [List.find?, hg]
    · have hl : g ∈ l := (List.mem_cons.1 h).resolve_left fun e => ha e.symm
      simp [List.find?, ho a ha, find_first hg ho l hl]

/-- The group of a port that is a member of exactly one. -/
theorem State.groupOf_of_memberOf {s : State} {p : PortId} {g : GroupId} (h : s.memberOf p g) :
    s.groupOf p = some g :=
  find_first (f := fun k => PortSet.has (s.group k).members p) h.1 h.2 allGroups
    (by
      match g with
      | 0 | 1 | 2 | 3 => decide)

/-- A group that `groupOf` names has the port as a member. -/
theorem State.has_of_groupOf {s : State} {p : PortId} {g : GroupId} (h : s.groupOf p = some g) :
    PortSet.has (s.group g).members p = true :=
  List.find?_some (p := fun k => PortSet.has (s.group k).members p) h

/-! ### Rounds -/

/-- A round is complete exactly when every present member has reported and one is present. -/
theorem State.roundComplete_iff (s : State) (g : GroupId) :
    s.roundComplete g = true ↔ s.allPresentIn g (s.group g).reported := by
  simp only [State.roundComplete, State.presentMembers, State.allPresentIn, Bool.and_eq_true,
    List.all_eq_true, List.mem_filter, PortSet.mem_toList, Bool.not_eq_true',
    List.isEmpty_eq_false_iff_exists_mem]
  exact ⟨fun ⟨⟨q, hq⟩, h⟩ => ⟨⟨q, hq⟩, fun q a b => h q ⟨a, b⟩⟩,
    fun ⟨⟨q, hq⟩, h⟩ => ⟨⟨q, hq⟩, fun q a => h q a.1 a.2⟩⟩

/-- No member of a set is present exactly when every member is DOWN. -/
theorem State.presentMembers_isEmpty_iff (s : State) (m : PortSet) :
    (s.presentMembers m).isEmpty = true
      ↔ ∀ q, PortSet.has m q = true → (s.port q).isDown = true := by
  simp [State.presentMembers, List.isEmpty_iff, List.filter_eq_nil_iff, PortSet.mem_toList]

/-- Everything the completion of a round does. -/
theorem State.completeRound_eq (s : State) (g : GroupId) : s.completeRound g = s.roundEnds g := by
  simp only [State.completeRound, State.emit_eq, State.roundEnds, SyncGroup.nextRound,
    SyncGroup.emptied, HubEvent.payload, bytes2]
  cases h : (s.group g).mode <;> rfl

/-- Everything a split does. -/
theorem State.splitRound_eq (s : State) (g : GroupId) :
    s.splitRound g = (s.requestsEvent [3, byte g, byte (s.group g).reported.toNat]).setGroup g
      { s.group g with reported := 0, timer := none, splits := bump (s.group g).splits } := by
  simp only [State.splitRound, State.emit_eq]
  rfl

/-- Everything a group does that goes OFF for want of present members. -/
theorem State.groupOff_eq (s : State) (g : GroupId) :
    s.groupOff g = (s.requestsEvent [4, byte g]).setGroup g
      { s.group g with mode := .off, reported := 0, timer := none } := by
  simp only [State.groupOff, State.emit_eq]
  rfl

/-- Judging a round completes it or leaves the state as it is. -/
theorem State.judgeRound_cases (s : State) (g : GroupId) :
    (s.allPresentIn g (s.group g).reported ∧ s.judgeRound g = s.roundEnds g)
      ∨ (¬ s.allPresentIn g (s.group g).reported ∧ s.judgeRound g = s) := by
  rw [← State.roundComplete_iff]
  cases h : s.roundComplete g
  · exact .inr ⟨by simp, by simp [State.judgeRound, h]⟩
  · exact .inl ⟨rfl, by simp [State.judgeRound, h, State.completeRound_eq]⟩

/-! ### A member's token and a member's loss -/

/-- Everything a port's loss of service does to its group: nothing, GROUP-OFF, or the end of the
round. -/
theorem State.memberDown_cases (s : State) (p : PortId) :
    s.memberDown p = s ∨ ∃ g, s.groupOf p = some g ∧ (s.group g).armed = true
      ∧ (s.memberDown p = s.groupOff g ∨ s.memberDown p = s.roundEnds g) := by
  rcases hg : s.groupOf p with _ | g
  · exact .inl (by simp only [State.memberDown, hg])
  · rcases ha : (s.group g).armed with _ | _
    · exact .inl (by simp [State.memberDown, hg, ha])
    · have hm : s.memberDown p = s.judgeLoss g := by simp only [State.memberDown, hg, ha, if_true]
      rw [hm]
      simp only [State.judgeLoss]
      split
      · exact .inr ⟨g, rfl, ha, .inl rfl⟩
      · rcases s.judgeRound_cases g with ⟨_, h⟩ | ⟨_, h⟩
        · exact .inr ⟨g, rfl, ha, .inr h⟩
        · exact .inl h

/-- A member's loss of service touches the return queue and the sync groups only. -/
theorem State.memberDown_frame (s : State) (p : PortId) :
    ∃ ret sync, s.memberDown p = (s.withRet ret).withSync sync := by
  rcases s.memberDown_cases p with h | ⟨g, _, _, h | h⟩
  · exact ⟨s.ret, s.sync, h⟩
  · exact ⟨_, _, h.trans (s.groupOff_eq g)⟩
  · exact ⟨_, _, h⟩

/-- A SYNC token touches the return queue and the sync groups only. -/
theorem State.takeSync_frame (s : State) (p : PortId) :
    ∃ ret sync, s.takeSync p = (s.withRet ret).withSync sync := by
  have armed : ∀ g, ∃ ret sync, s.armedSync g p = (s.withRet ret).withSync sync := by
    intro g
    simp only [State.armedSync]
    split
    · exact ⟨s.ret, _, rfl⟩
    · rcases (s.setGroup g ((s.group g).reportedBy p)).judgeRound_cases g with ⟨_, h⟩ | ⟨_, h⟩
      · exact ⟨_, _, h⟩
      · exact ⟨s.ret, _, h⟩
  simp only [State.takeSync]
  split
  · split
    · exact armed _
    · exact ⟨s.ret, _, rfl⟩
  · exact ⟨s.ret, _, rfl⟩

@[simp] theorem State.memberDown_port (s : State) (p q : PortId) :
    (s.memberDown p).port q = s.port q := by
  obtain ⟨_, _, h⟩ := s.memberDown_frame p
  rw [h]; rfl

@[simp] theorem State.memberDown_record (s : State) (p : PortId) (t : Tag) :
    (s.memberDown p).record t = s.record t := by
  obtain ⟨_, _, h⟩ := s.memberDown_frame p
  rw [h]; rfl

@[simp] theorem State.memberDown_agent (s : State) (p : PortId) :
    (s.memberDown p).agent = s.agent := by
  obtain ⟨_, _, h⟩ := s.memberDown_frame p
  rw [h]; rfl

end Sys2Proof.Machine
end

