-- ==== Sys2Proof/Laws/Transactions.lean ====
section
/-! SUPPORT. What the operations of the transaction table can do, said once. -/

namespace Sys2Proof.Machine

/-! ### Completion -/

/-- The return queue after entries have joined it one by one. -/
def ReturnQueue.joined (q : ReturnQueue) (es : List Entry) : ReturnQueue := es.foldl ReturnQueue.push q

/-- Entries join at the young end; nothing else but attention changes. -/
theorem ReturnQueue.joined_eq (q : ReturnQueue) (e : Entry) (es : List Entry) :
    q.joined (e :: es) = ({ q with entries := q.entries ++ e :: es }).judged := by
  induction es generalizing q e with
  | nil => rfl
  | cons x xs ih =>
    have h : q.joined (e :: x :: xs) = (q.push e).joined (x :: xs) := rfl
    rw [h, ih]
    simp [ReturnQueue.push, ReturnQueue.judged, ReturnQueue.callsHost]

/-- Everything completion does: the record is DONE and its entries join the return queue. -/
theorem State.complete_eq (s : State) (t : Tag) (x : Transaction) :
    s.complete t x = (s.setRecord t (some x.closed)).withRet (s.ret.joined (x.completionEntries t)) :=
  rfl

/-- The entries of a completed record: its REPORT, with a REPLY ahead of it when a READ holds data. -/
theorem Transaction.completionEntries_cases (x : Transaction) (t : Tag) :
    x.completionEntries t = [x.reportEntry t]
      ∨ ∃ d, x.kind = .read ∧ x.data = some d
          ∧ x.completionEntries t = [x.replyEntry t d, x.reportEntry t] := by
  simp only [Transaction.completionEntries]
  split
  · exact .inr ⟨_, by assumption, by assumption, rfl⟩
  · exact .inl rfl

/-- What storing a record after a resolution can do. -/
theorem State.storeOrComplete_cases (s : State) (t : Tag) (x : Transaction) :
    (x.finished = true ∧ s.storeOrComplete t x = s.complete t x)
      ∨ (x.finished = false ∧ s.storeOrComplete t x = s.setRecord t (some x)) := by
  cases h : x.finished
  · exact .inr ⟨rfl, by simp [State.storeOrComplete, h]⟩
  · exact .inl ⟨rfl, by simp [State.storeOrComplete, h]⟩

/-! ### Frames: a resolution touches one record and the return queue -/

/-- The states that differ from `s` in the record of `t` and in the return queue only. -/
def State.OnlyRecord (t : Tag) (s u : State) : Prop :=
  ∃ x ret, u = (s.setRecord t x).withRet ret

/-- A state differs from itself in nothing. -/
theorem State.onlyRecord_refl (s : State) (t : Tag) : s.OnlyRecord t s :=
  ⟨s.record t, s.ret, by simp [State.setRecord, State.withTxns, State.withRet, State.record]⟩

/-- Storing a record touches that record and the return queue only. -/
theorem State.storeOrComplete_onlyRecord (s : State) (t : Tag) (x : Transaction) :
    s.OnlyRecord t (s.storeOrComplete t x) := by
  rcases s.storeOrComplete_cases t x with ⟨_, h⟩ | ⟨_, h⟩ <;> rw [h]
  · exact ⟨_, _, rfl⟩
  · exact ⟨_, s.ret, rfl⟩

/-- A change to an OPEN record keeps what its change keeps. -/
theorem State.onOpenRecord_cases (s : State) (t : Tag) (f : Transaction → State) :
    (∃ x, s.record t = some x ∧ x.state = .opened ∧ s.onOpenRecord t f = f x)
      ∨ ((∀ x, s.record t = some x → x.state ≠ .opened) ∧ s.onOpenRecord t f = s) := by
  simp only [State.onOpenRecord]
  rcases hr : s.record t with _ | x
  · exact .inr ⟨by simp, rfl⟩
  · by_cases ho : x.state = .opened
    · exact .inl ⟨x, rfl, ho, by simp [ho]⟩
    · exact .inr ⟨by rintro _ ⟨rfl⟩; exact ho, by simp [ho]⟩

/-- A flush notice touches one record and the return queue only. -/
theorem State.takeNotice_onlyRecord (s : State) (p : PortId) (n : Notice) :
    s.OnlyRecord n.tag (s.takeNotice p n) := by
  rcases s.onOpenRecord_cases n.tag
      (fun x => s.storeOrComplete n.tag (x.settle p n.outcome n.isPartial none))
    with ⟨x, _, _, h⟩ | ⟨_, h⟩
  · rw [show s.takeNotice p n = _ from h]; exact s.storeOrComplete_onlyRecord _ _
  · rw [show s.takeNotice p n = s from h]; exact s.onlyRecord_refl _

/-- A result touches one record and the return queue only. -/
theorem State.takeResult_onlyRecord (s : State) (p : PortId) (e : Exchange) :
    s.OnlyRecord e.tag (s.takeResult p e) := by
  rcases s.onOpenRecord_cases e.tag (fun x => s.storeOrComplete e.tag
      { x.settle p e.outcome false e.errorWord with data := e.dataFor x.data })
    with ⟨x, _, _, h⟩ | ⟨_, h⟩
  · rw [show s.takeResult p e = _ from h]; exact s.storeOrComplete_onlyRecord _ _
  · rw [show s.takeResult p e = s from h]; exact s.onlyRecord_refl _

/-- What a change of one record keeps. -/
theorem State.OnlyRecord.keeps {s u : State} {t : Tag} (h : s.OnlyRecord t u) :
    u.upstream = s.upstream ∧ u.table = s.table ∧ u.ports = s.ports ∧ u.sync = s.sync
      ∧ u.agent = s.agent ∧ u.ingress = s.ingress ∧ u.pending = s.pending
      ∧ u.txns.deadlineMs = s.txns.deadlineMs ∧ ∀ k, k ≠ t → u.record k = s.record k := by
  obtain ⟨x, ret, rfl⟩ := h
  exact ⟨rfl, rfl, rfl, rfl, rfl, rfl, rfl, rfl, fun k hk => s.setRecord_record_ne x hk⟩

@[simp] theorem State.takeNotice_ports (s : State) (p : PortId) (n : Notice) :
    (s.takeNotice p n).ports = s.ports := (s.takeNotice_onlyRecord p n).keeps.2.2.1

@[simp] theorem State.takeNotice_port (s : State) (p q : PortId) (n : Notice) :
    (s.takeNotice p n).port q = s.port q := by simp [State.port]

@[simp] theorem State.takeResult_ports (s : State) (p : PortId) (e : Exchange) :
    (s.takeResult p e).ports = s.ports := (s.takeResult_onlyRecord p e).keeps.2.2.1

@[simp] theorem State.takeResult_port (s : State) (p q : PortId) (e : Exchange) :
    (s.takeResult p e).port q = s.port q := by simp [State.port]

@[simp] theorem State.takeResult_sync (s : State) (p : PortId) (e : Exchange) :
    (s.takeResult p e).sync = s.sync := (s.takeResult_onlyRecord p e).keeps.2.2.2.1

@[simp] theorem State.takeResult_wanted (s : State) (p q : PortId) (e : Exchange) :
    (s.takeResult p e).wanted q = s.wanted q := by simp [State.wanted, State.group]

/-! ### Port records -/

/-- Settling a part keeps the ports of the parts, in their order. -/
@[simp] theorem Transaction.settle_ports (x : Transaction) (p : PortId) (o : PartOutcome) (b : Bool)
    (w : Option Half) :
    (x.settle p o b w).parts.map PortRecord.port = x.parts.map PortRecord.port := by
  simp only [Transaction.settle, List.map_map]
  refine List.map_congr_left fun r _ => ?_
  simp only [Function.comp_apply]
  split <;> rfl

/-- Settling a part of port `p` keeps the parts of another port. -/
theorem Transaction.settle_other (x : Transaction) {p q : PortId} (h : p ≠ q) (o : PartOutcome)
    (b : Bool) (w : Option Half) :
    (x.settle p o b w).parts.filter (fun r => r.port == q)
      = x.parts.filter fun r => r.port == q := by
  simp only [Transaction.settle]
  induction x.parts with
  | nil => rfl
  | cons r rs ih =>
    by_cases hr : r.port = p
    · have hq : (r.port == q) = false := by simp [hr, h]
      by_cases hs : r.settled = false <;> simp [hr, hs, h, ih]
    · simp [hr, ih, List.filter_cons]

/-- Only a READ exchange with a Reply brings data. -/
theorem Exchange.dataFor_cases (e : Exchange) (held : Option (List Byte)) :
    e.dataFor held = held
      ∨ ∃ n d, e.answers = .read n ∧ e.reply = some d ∧ e.dataFor held = some d := by
  simp only [Exchange.dataFor]
  split
  · exact .inr ⟨_, _, by assumption, by assumption, rfl⟩
  · exact .inl rfl

end Sys2Proof.Machine
end

