-- ==== Sys2Proof/Laws/TilePorts.lean ====
section
/-! SUPPORT. What the operations of the tile ports can do, said once. -/

namespace Sys2Proof.Machine

/-! ### One port -/

/-- Everything a flush leaves of a port. -/
theorem Port.flushed_eq (x : Port) : x.flushed = x.swept := by
  simp [Port.flushed, Port.swept, PortCounts.flushed, bumpBy]

/-- Everything entering CLEARING does to a port. -/
theorem Port.enterClearing_eq (x : Port) (d : Destination) :
    x.enterClearing d = { x with
      phase := .clearing d, holder := x.linkAtClearing.1, seize := x.linkAtClearing.2.1
      tx := x.linkAtClearing.2.2, rx := x.rxAtClearing } := by
  obtain ⟨_, holder, _, _, tx, _, _, _, _, _, _, _, _, _, _⟩ := x
  cases holder <;> cases tx <;>
    simp [Port.enterClearing, Port.settleLink, Port.linkAtClearing, Port.rxAtClearing,
      Port.startSeize]

/-- Clearing toward a destination: a clearing goes on, any other port enters it. -/
theorem Port.clearToward_eq (x : Port) (d : Destination) :
    x.clearToward d = if x.isClearing then { x with phase := .clearing d } else x.enterClearing d := rfl

/-- A READY port that sends nothing sends what waits, or watches when that is wanted. -/
theorem Port.judge_of_ready (x : Port) (w : Bool) (h : x.phase = .ready) (ht : x.tx = .idle) :
    x.judge w = x.readyToSend w := by
  obtain ⟨_, _, _, _, _, queue, _, _, _, _, _, _, _, _, _⟩ := x
  simp only at h ht
  subst h ht
  cases queue with
  | nil => cases w <;> rfl
  | cons a l => rfl

/-- A port that is not READY, or that is sending, is left as it is. -/
theorem Port.judge_of_busy (x : Port) (w : Bool) (h : x.phase ≠ .ready ∨ x.tx ≠ .idle) :
    x.judge w = x := by
  obtain ⟨phase, _, _, _, tx, queue, _, _, _, _, _, _, _, _, _⟩ := x
  cases phase <;> cases tx <;> first | rfl | simp at h

/-- What judging can do to a port. -/
theorem Port.judge_cases (x : Port) (w : Bool) :
    x.judge w = x
      ∨ (x.phase = .ready ∧ x.tx = .idle ∧ x.judge w = x.readyToSend w) := by
  by_cases h : x.phase = .ready
  · by_cases ht : x.tx = .idle
    · exact .inr ⟨h, ht, x.judge_of_ready w h ht⟩
    · exact .inl (x.judge_of_busy w (.inr ht))
  · exact .inl (x.judge_of_busy w (.inl h))

/-- Judging keeps everything but the state, the transmission and the bursts count. -/
theorem Port.judge_keeps (x : Port) (w : Bool) :
    { x.judge w with phase := x.phase, tx := x.tx, counts := x.counts } = x := by
  rcases x.judge_cases w with h | ⟨_, _, h⟩ <;> rw [h]
  simp only [Port.readyToSend]
  split <;> rfl

/-- An exchange has a result for the table exactly when it is no watch and no orphan. -/
theorem Exchange.hasResult_iff (e : Exchange) :
    e.hasResult = true ↔ e.answers ≠ .watch ∧ e.orphan = false := by
  simp only [Exchange.hasResult]
  cases h : e.answers <;> simp

/-- Where a failure takes a port. -/
theorem Port.failureDest_cases (x : Port) :
    (∃ c, x.phase = .clearing (.down c) ∧ x.failureDest = .down c)
      ∨ ((∀ c, x.phase ≠ .clearing (.down c))
          ∧ x.failureDest = if x.failureLimit ≤ x.nextFailures then .down .failed else .ready) := by
  obtain ⟨phase, _, _, _, _, _, _, _, _, _, _, _, _, _, _⟩ := x
  rcases phase with (_ | c) | _ | _ | _ | _ | _
  case clearing.down => exact .inl ⟨c, rfl, rfl⟩
  all_goals exact .inr ⟨by simp, rfl⟩

/-- Everything a failure leaves of a port whose tile holds the link. -/
theorem Port.failed_eq (x : Port) (h : x.holder = .tile) :
    x.failed = { x.swept with
      phase := .clearing x.failureDest, holder := .tile, seize := some Config.seizeInterval
      rx := .resting, tx := .idle, failures := x.nextFailures, counts := x.swept.counts.failure } := by
  simp only [Port.failed, Port.flushed_eq, Port.enterClearing_eq, Port.linkAtClearing,
    Port.rxAtClearing]
  have hs : x.swept.holder = .tile := h
  simp [hs, Config.seizeInterval]

/-! ### A port in the state -/

/-- The notices of a flush touch records and the return queue only. -/
theorem State.handNotices_keeps (s : State) (p : PortId) (ns : List Notice) :
    let u := s.handNotices p ns
    u.upstream = s.upstream ∧ u.table = s.table ∧ u.ports = s.ports ∧ u.sync = s.sync
      ∧ u.agent = s.agent ∧ u.ingress = s.ingress ∧ u.pending = s.pending
      ∧ u.txns.deadlineMs = s.txns.deadlineMs
      ∧ ∀ k, (∀ n ∈ ns, n.tag ≠ k) → u.record k = s.record k := by
  induction ns generalizing s with
  | nil => exact ⟨rfl, rfl, rfl, rfl, rfl, rfl, rfl, rfl, fun _ _ => rfl⟩
  | cons n ns ih =>
    obtain ⟨a1, a2, a3, a4, a5, a6, a7, a8, a9⟩ := (s.takeNotice_onlyRecord p n).keeps
    obtain ⟨b1, b2, b3, b4, b5, b6, b7, b8, b9⟩ := ih (s.takeNotice p n)
    refine ⟨b1.trans a1, b2.trans a2, b3.trans a3, b4.trans a4, b5.trans a5, b6.trans a6,
      b7.trans a7, b8.trans a8, fun k hk => ?_⟩
    exact (b9 k fun m hm => hk m (List.mem_cons_of_mem _ hm)).trans
      (a9 k fun e => hk n List.mem_cons_self e.symm)

@[simp] theorem State.handNotices_port (s : State) (p q : PortId) (ns : List Notice) :
    (s.handNotices p ns).port q = s.port q := by
  simp only [State.port, (s.handNotices_keeps p ns).2.2.1]

/-- A failure of port `p` leaves the other ports as they are. -/
theorem State.failPort_port_ne (s : State) {p q : PortId} (f : Port → Port) (h : q ≠ p) :
    (s.failPort p f).port q = s.port q := by
  simp [State.failPort, State.setPort_port_ne, h]

/-- A failure of port `p` leaves the port failed. -/
theorem State.failPort_port_same (s : State) (p : PortId) (f : Port → Port) :
    (s.failPort p f).port p = (f (s.port p)).failed := by
  simp [State.failPort]

/-- Judging port `p` touches that port only. -/
theorem State.judgePort_onlyPort (s : State) (p : PortId) : s.onlyPort p (s.judgePort p) :=
  ⟨rfl, rfl, fun _ h => s.setPort_port_ne _ h, rfl, rfl, rfl, rfl, rfl, rfl⟩

@[simp] theorem State.judgePort_port_same (s : State) (p : PortId) :
    (s.judgePort p).port p = (s.port p).judge (s.wanted p) := by
  simp [State.judgePort]

theorem State.judgePort_port_ne (s : State) {p q : PortId} (h : q ≠ p) :
    (s.judgePort p).port q = s.port q := s.setPort_port_ne _ h

/-- A command in execution is answered DONE and held no longer. -/
theorem State.deferredDone_of_held (s : State) (c : MgmtCommand) (b : Byte)
    (h : s.agent.inExecution = some c) :
    s.deferredDone b = { s with
      agent := { s.agent with inExecution := none }, ret := s.ret.answered c 0 [b] } := by
  simp only [State.deferredDone, h]
  rfl

/-- Without a command in execution there is nothing to answer. -/
theorem State.deferredDone_of_none (s : State) (b : Byte) (h : s.agent.inExecution = none) :
    s.deferredDone b = s := by
  simp only [State.deferredDone, h]

/-- Everything the arrival in DOWN does to a port that owes no STOP. -/
theorem State.goDown_of_not_owed (s : State) (p : PortId) (c : Cause) (h : (s.port p).owed ≠ .stop) :
    s.goDown p c = ((s.setPort p { s.port p with phase := .down c, tx := .idle }).requestsEvent
      [5, byte p, c.code]).memberDown p := by
  simp only [State.goDown, h, if_false, State.emit_eq]
  rfl

/-- Everything the arrival in DOWN does to a port that owes a STOP. -/
theorem State.goDown_of_owed (s : State) (p : PortId) (c : Cause) (h : (s.port p).owed = .stop) :
    s.goDown p c =
      (let told := ((s.setPort p { s.port p with phase := .down c, tx := .idle }).requestsEvent
        [5, byte p, c.code]).memberDown p
      (told.setPort p { told.port p with owed := .none }).deferredDone c.code) := by
  simp only [State.goDown, h, if_true, State.emit_eq]
  rfl

/-- A port is live when it is neither DOWN nor clearing toward DOWN. -/
theorem Port.live_iff (x : Port) :
    x.live = true ↔ ∀ cause, x.phase ≠ .down cause ∧ x.phase ≠ .clearing (.down cause) := by
  simp only [Port.live]
  rcases x.phase with d | _ | _ | _ | _ | c
  · cases d <;> simp
  all_goals simp

/-! ### Packets from a tile -/

/-- A packet that a link can deliver is judged by the port in a burst of its tile. -/
theorem State.onTilePacket_of_fits (s : State) (p : PortId) {packet : TilePacket}
    (f : TileVerdict → Port → Port) (h : packet.fits = true) :
    s.onTilePacket p packet f = s.inTileBurst p (f (tileVerdict packet)) := by
  simp only [TilePacket.fits, Bool.and_eq_true] at h
  simp only [State.onTilePacket, h.1, if_true]

/-- A row of a tile's packet changes its port by the packet's judgement, or changes nothing. -/
theorem State.onTilePacket_cases (s : State) (p : PortId) (packet : TilePacket)
    (f : TileVerdict → Port → Port) :
    s.onTilePacket p packet f = s
      ∨ s.onTilePacket p packet f = s.setPort p (f (tileVerdict packet) (s.port p)) := by
  simp only [State.onTilePacket, State.inTileBurst]
  split
  · split
    · exact .inr rfl
    · exact .inl rfl
  · exact .inl rfl

/-! ### Withdrawal -/

/-- No piece of the transaction is left linked in the queue. -/
theorem Port.withdraw_unlinked (x : Port) (t : Tag) : ∀ z ∈ (x.withdraw t).queue, z.link ≠ some t := by
  intro z hz
  simp only [Port.withdraw, Port.withdrawnQueue, List.mem_append, List.mem_filter] at hz
  rcases hz with hz | ⟨_, hz⟩
  · cases hw : x.onWire with
    | none => simp [hw] at hz
    | some y =>
      simp only [hw, Option.map_some, Option.toList_some, List.mem_singleton] at hz
      subst hz
      simp only [Piece.stripped]
      split <;> simp_all
  · simpa [Piece.linkedTo] using hz

/-- A withdrawal touches the queue and the pending answer only. -/
theorem Port.withdraw_keeps (x : Port) (t : Tag) :
    { x.withdraw t with queue := x.queue, pendingAnswer := x.pendingAnswer } = x := rfl

end Sys2Proof.Machine
end

