-- ==== Sys2Proof/Laws/Ingress.lean ====
section
/-! SUPPORT. What ingress, admission and the slicer can do, said once. -/

namespace Sys2Proof.Machine

/-! ### Kinds -/

/-- The kind that a byte names has that byte as its code. -/
theorem kindOfByte_code {b : Byte} {k : KindCode} (h : kindOfByte b = some k) : k.code = b := by
  have := List.find?_some (p := fun k : KindCode => k.code == b) h
  simpa using this

/-- The four stream kinds that the host may send, with their codes. -/
theorem hostKind_stream {b : Byte} {k : StreamKind} (h : hostKind b = some (.stream k)) :
    (b = 0x10 ∧ k = .frameStart) ∨ (b = 0x11 ∧ k = .line) ∨ (b = 0x20 ∧ k = .write)
      ∨ (b = 0x21 ∧ k = .read) := by
  simp only [hostKind] at h
  cases hk : kindOfByte b with
  | none => simp [hk] at h
  | some c =>
    have hc := kindOfByte_code hk
    subst hc
    simp only [hk] at h
    cases c <;> simp_all [KindCode.code]

/-- The code of a MGMT. -/
theorem hostKind_mgmt {b : Byte} (h : hostKind b = some .mgmt) : b = 0x30 := by
  simp only [hostKind] at h
  cases hk : kindOfByte b with
  | none => simp [hk] at h
  | some c =>
    have hc := kindOfByte_code hk
    subst hc
    simp only [hk] at h
    cases c <;> simp_all [KindCode.code]

/-! ### Notices, refusals and the pending commit -/

/-- A failed-payload notice does not look at the upstream port, and does not touch it. -/
theorem State.failedPayload_withUpstream (s : State) (h : Header) (x : Upstream) :
    (s.withUpstream x).failedPayload h = (s.failedPayload h).withUpstream x := by
  simp only [State.failedPayload, State.ingressReply, State.refuse, State.reportRefusal]
  repeat' split
  all_goals rfl

/-- A packet that does not qualify leaves a pending commit as it is. -/
theorem State.examineCommit_of_not {s : State} {kind : StreamKind} {h : Header}
    (hq : s.table.qualifies kind h = false) : s.examineCommit kind h = s := by
  simp [State.examineCommit, hq]

/-- A packet that qualifies takes the commit, and asks for COMMIT-DONE. -/
theorem State.examineCommit_of_qualifies {s : State} {kind : StreamKind} {h : Header}
    (hq : s.table.qualifies kind h = true) :
    s.examineCommit kind h = (s.withTable s.table.commitStaged).requestsEvent [1, byte h.stream] := by
  simp only [State.examineCommit, hq, if_true, State.emit_eq]
  rfl

/-- The lookup of a stream that has an entry. -/
theorem StreamTable.lookup_eq (x : StreamTable) (id : Fin 31) : x.lookup id.val = x.active[id] := by
  simp [StreamTable.lookup]

/-! ### The ordered checks -/

/-- The reason of the first check whose condition holds. -/
theorem firstReason_cons (b : Bool) (r : RefusalReason) (l : List (Bool × RefusalReason)) :
    (List.find? Prod.fst ((b, r) :: l)).map Prod.snd
      = if b = true then some r else (List.find? Prod.fst l).map Prod.snd := by
  cases b <;> simp [List.find?]

/-- Every pair of stream kinds is told apart. -/
theorem StreamKind.beq_values :
    (StreamKind.line == StreamKind.frameStart) = false
      ∧ (StreamKind.write == StreamKind.frameStart) = false
      ∧ (StreamKind.read == StreamKind.frameStart) = false
      ∧ (StreamKind.line == StreamKind.line) = true
      ∧ (StreamKind.frameStart == StreamKind.frameStart) = true
      ∧ (StreamKind.frameStart == StreamKind.line) = false
      ∧ (StreamKind.write == StreamKind.line) = false
      ∧ (StreamKind.read == StreamKind.line) = false
      ∧ (StreamKind.write == StreamKind.read) = false
      ∧ (StreamKind.read == StreamKind.read) = true
      ∧ (StreamKind.write == StreamKind.write) = true
      ∧ (StreamKind.read == StreamKind.write) = false := by decide

/-- What the checks of steps 5 to 9 give: the reason of the first of `headChecks` that fails. -/
theorem headRefusal_eq (kind : StreamKind) (h : Header) (payload : List Byte) (members : PortSet)
    (fields : EntryClass) (held : Bool) :
    headRefusal kind h payload members fields held
      = ((headChecks kind h payload members fields held).find? Prod.fst).map Prod.snd := by
  have hnil : (List.find? (Prod.fst : Bool × RefusalReason → Bool) []).map Prod.snd = none := rfl
  simp only [headRefusal, headChecks, isMultiRead]
  delta memberCount
  cases fields <;> cases kind <;>
    simp only [firstReason_cons, hnil, StreamKind.beq_values, StreamKind.fits, shapeRefusal,
      StreamKind.tagged, isTooLongWrite, Config.maxReadLength,
      Bool.not_true, Bool.not_false, Bool.true_or, Bool.or_true, Bool.or_false, Bool.false_or,
      Bool.true_and, Bool.false_and, if_true, if_false, Bool.false_eq_true, reduceCtorEq,
      Option.isSome_some] <;>
    by_cases h0 : h.length = 0 <;> simp [h0]
  · rename_i size _
    by_cases h1 : h.length % size = 0 <;> simp [h1]
  all_goals by_cases h1 : 16 < h.length <;> cases h.ackRequest <;> cases held <;> simp [h1]

/-! ### Admission -/

/-- Pieces join the young end of a queue. -/
@[simp] theorem Port.append_queue (x : Port) (ps : List Piece) :
    (x.append ps).queue = x.queue ++ ps := rfl

/-- Pieces that join a queue touch the queue and the limit state only. -/
theorem Port.append_keeps (x : Port) (ps : List Piece) :
    { x.append ps with queue := x.queue, limit := x.limit } = x := rfl

/-- Appending touches the ports only. -/
theorem State.appendAll_keeps (s : State) (targets : List PortPieces) :
    ∃ ports, s.appendAll targets = s.withPorts ports := by
  induction targets generalizing s with
  | nil => exact ⟨s.ports, rfl⟩
  | cons x xs ih =>
    obtain ⟨ports, h⟩ := ih (s.setPort x.port ((s.port x.port).append x.pieces))
    exact ⟨ports, h⟩

/-- Appending leaves a port that is no target as it is. -/
theorem State.appendAll_port_of_not (s : State) (targets : List PortPieces) (p : PortId)
    (h : ∀ x ∈ targets, x.port ≠ p) : (s.appendAll targets).port p = s.port p := by
  induction targets generalizing s with
  | nil => rfl
  | cons x xs ih =>
    have hx : p ≠ x.port := fun e => h x List.mem_cons_self e.symm
    exact (ih (s.setPort x.port ((s.port x.port).append x.pieces))
      fun y hy => h y (List.mem_cons_of_mem _ hy)).trans (s.setPort_port_ne _ hx)

/-- Judging several ports touches the ports only. -/
theorem State.judgeAll_keeps (s : State) (ps : List PortId) :
    ∃ ports, ps.foldl State.judgePort s = s.withPorts ports := by
  induction ps generalizing s with
  | nil => exact ⟨s.ports, rfl⟩
  | cons p ps ih =>
    obtain ⟨ports, h⟩ := ih (s.judgePort p)
    exact ⟨ports, h⟩

/-- Judging several ports leaves another as it is. -/
theorem State.judgeAll_port_of_not (s : State) (ps : List PortId) (q : PortId) (h : q ∉ ps) :
    (ps.foldl State.judgePort s).port q = s.port q := by
  induction ps generalizing s with
  | nil => rfl
  | cons p ps ih =>
    have hp : q ≠ p := fun e => h (e ▸ List.mem_cons_self)
    exact (ih (s.judgePort p) fun hq => h (List.mem_cons_of_mem _ hq)).trans
      (s.judgePort_port_ne hp)

/-- What a verdict does: a refusal, an unmapped line, or an admission. -/
theorem State.roomVerdict_cases (s : State) (kind : StreamKind) (members : PortSet)
    (targets : List PortPieces) :
    (targets = [] ∧ s.roomVerdict kind members targets
        = if kind = .line then .unmapped else .refused .noPort)
      ∨ (targets ≠ [] ∧ (∀ x ∈ targets, (s.port x.port).hasRoom x.pieces = true)
          ∧ s.roomVerdict kind members targets = .granted members targets)
      ∨ (targets ≠ [] ∧ (∃ x ∈ targets, (s.port x.port).hasRoom x.pieces = false)
          ∧ s.roomVerdict kind members targets = .refused .noRoom) := by
  simp only [State.roomVerdict]
  rcases targets with _ | ⟨x, xs⟩
  · exact .inl ⟨rfl, rfl⟩
  · cases hr : (x :: xs).all fun y => (s.port y.port).hasRoom y.pieces
    · exact .inr (.inr ⟨by simp, by simpa using List.all_eq_false.1 hr, by simp⟩)
    · exact .inr (.inl ⟨by simp, by simpa using hr, by simp⟩)

/-! ### Live members -/

/-- The ports that the slicer forms pieces for (R56). -/
theorem State.mem_liveMembers (s : State) (members : PortSet) (p : PortId) :
    (p ∈ (PortSet.toList members).filter fun q => (s.port q).live)
      ↔ PortSet.has members p = true
        ∧ ∀ cause, (s.port p).phase ≠ .down cause ∧ (s.port p).phase ≠ .clearing (.down cause) := by
  simp only [List.mem_filter, PortSet.mem_toList, Port.live_iff]

/-- A port set is listed in ascending order, and so is what a filter leaves of it. -/
theorem PortSet.toList_ascends (members : PortSet) (f : PortId → Bool) :
    ((PortSet.toList members).filter f).Pairwise (· < ·) :=
  List.Pairwise.filter _ (List.Pairwise.filter _ (by decide))

/-! ### Headers of the host -/

/-- Ten header bytes in a burst of the host, with no packet in progress, are judged. -/
theorem State.headerArrived_of_fits (s : State) {header : List Byte} (hd : s.upstream.direction = .follower)
    (hr : s.upstream.rx = .inBurst) (hi : s.upstream.inProgress = none)
    (h : headerFits header = true) : s.headerArrived header = s.takeHeader header := by
  simp only [State.headerArrived, hd, hr, hi, h, if_true]

end Sys2Proof.Machine
end

