-- ==== Sys2Proof/Laws/Management.lean ====
section
/-! SUPPORT. What the management agent's operations can do, said once. -/

namespace Sys2Proof.Machine

/-! ### Taking the oldest command -/

/-- The row of the agent's next command runs it on the state in which it has left the queue. -/
theorem State.execute_of_offers {s : State} {c : MgmtCommand} {rest : List MgmtCommand}
    (h : s.offers c rest) (name : CommandName) (run : MgmtCommand → State → State) :
    s.execute name run = if commandName c.payload = name then
      run c (s.withAgent { queue := rest, inExecution := none }) else s := by
  simp only [State.execute, h.1, h.2]

/-- Without a command to take, a management row does nothing. -/
theorem State.execute_of_none {s : State} (h : s.agent.inExecution ≠ none ∨ s.agent.queue = [])
    (name : CommandName) (run : MgmtCommand → State → State) : s.execute name run = s := by
  simp only [State.execute]
  split
  · simp_all
  · rfl

/-- Taking and answering a command in one. -/
theorem State.reply_of_taken (s : State) (c : MgmtCommand) (rest : List MgmtCommand) (status : Status)
    (result : List Byte) :
    (s.withAgent { queue := rest, inExecution := none }).reply c status result
      = s.taken c rest status.code (if status = .done then result else []) := rfl

/-- Everything a row of the agent's next command can do when it judges its arguments first. -/
theorem withArgs_cases {α : Type} (c : MgmtCommand) (args : Option α) (s : State)
    (run : α → State) :
    (args = none ∧ withArgs c args s run = s.reply c .badArg [])
      ∨ ∃ a, args = some a ∧ withArgs c args s run = run a := by
  cases args with
  | none   => exact .inl ⟨rfl, rfl⟩
  | some a => exact .inr ⟨a, rfl, rfl⟩

/-- A change of the banks is answered BUSY while a commit is pending. -/
theorem unlessPending_eq (c : MgmtCommand) (s run : State) :
    unlessPending c s run
      = if s.table.commit = .pendingFrame then s.reply c .busy [] else run := by
  cases h : s.table.commit <;> simp [unlessPending, h]

/-! ### Arguments in range -/

theorem portArg_of_eq {b : Byte} {p : PortId} (h : b.toNat = p.val) : portArg b = some p := by
  have hb : b.toNat < 4 := h ▸ p.isLt
  simp only [portArg, hb, dif_pos]
  exact congrArg some (Fin.ext h)

theorem portArg_of_le {b : Byte} (h : 4 ≤ b.toNat) : portArg b = none := by
  simp only [portArg, dif_neg (Nat.not_lt.2 h)]

theorem streamArg_of_lt {b : Byte} (h : b.toNat < 31) : streamArg b = some ⟨b.toNat, h⟩ := by
  simp only [streamArg, h, dif_pos]

theorem streamArg_of_le {b : Byte} (h : 31 ≤ b.toNat) : streamArg b = none := by
  simp only [streamArg, dif_neg (Nat.not_lt.2 h)]

/-! ### Notices to ports -/

/-- Telling the ports of a changed wish to watch touches the ports only. -/
theorem State.tellWatches_keeps (s before : State) :
    ∃ ports, s.tellWatches before = s.withPorts ports := by
  have one : ∀ (u : State) (p : PortId), ∃ ports, before.tellWatch u p = u.withPorts ports := by
    intro u p
    simp only [State.tellWatch]
    split
    · exact ⟨u.ports, rfl⟩
    · exact ⟨_, rfl⟩
  have all : ∀ (l : List PortId) (u : State), ∃ ports, l.foldl before.tellWatch u = u.withPorts ports := by
    intro l
    induction l with
    | nil => exact fun u => ⟨u.ports, rfl⟩
    | cons p l ih =>
      intro u
      obtain ⟨a, ha⟩ := one u p
      obtain ⟨b, hb⟩ := ih (before.tellWatch u p)
      exact ⟨b, by rw [List.foldl_cons, hb, ha]; rfl⟩
  exact all _ _

/-- A stop reaches one port, and its notices touch records and the return queue only. -/
theorem State.stopPort_port_ne (s : State) {p q : PortId} (h : q ≠ p) :
    (s.stopPort p).port q = s.port q := by
  simp only [State.stopPort]
  split <;> simp [State.setPort_port_ne, h]

/-- A restart reaches one port, and its notices touch records and the return queue only. -/
theorem State.restartPort_port_ne (s : State) {p q : PortId} (h : q ≠ p) :
    (s.restartPort p).port q = s.port q := by
  simp only [State.restartPort]
  split <;> simp [State.setPort_port_ne, h]

end Sys2Proof.Machine
end

