-- ==== Sys2Proof/Tests/Slice0.lean ====
section
/-! SUPPORT. The model's own tests: ill-formed terms that the check refuses, the check values and examples
of the spec, one or two small steps of each row, and for each statement concrete operands and states
that meet its hypotheses. -/

namespace Sys2Proof.Tests

open Sys2Proof Sys2Proof.Machine

-- One theorem after another: as many threads as theorems would fill the memory.
set_option Elab.async false

/-! ### Helpers -/

/-- The state after a command, and the state itself where there is none. -/
def after (c : Instr) (s : State) : State :=
  match exec c s with
  | .next t                => t
  | .fault _ | .refused _  => s

/-- A port in READY that rests. -/
def resting : Port := { Port.reset with phase := .ready, tx := .idle }

/-- The hub after bring-up: every port READY and resting. -/
def up : State := State.reset.withPorts (Vector.replicate 4 resting)

/-- The state with a change to one port. -/
def onPort (s : State) (p : PortId) (f : Port → Port) : State := s.setPort p (f (s.port p))

/-- The state with a change to one group. -/
def onGroup (s : State) (g : GroupId) (f : SyncGroup → SyncGroup) : State := s.setGroup g (f (s.group g))

/-- The state with a change to the upstream port. -/
def onUpstream (s : State) (f : Upstream → Upstream) : State := s.withUpstream (f s.upstream)

/-- A management command of tag 5. -/
def command (payload : List Byte) : MgmtCommand := { tag := 5, payload := payload }

/-- The agent has accepted one command. -/
def asked (payload : List Byte) (s : State) : State :=
  (s.withAgent { queue := [command payload], inExecution := none }).withRet { s.ret with reserved := 1 }

/-- The payloads of the return queue. -/
def answers (s : State) : List (List Byte) := s.ret.entries.map Entry.payload

/-- A window of the 2×2 wall of section 2.7. -/
def wallWindow (column line : Nat) : Window :=
  { firstColumn := column, width := 960, firstLine := line, height := 540 }

/-- The fields of stream 0 of the wall. -/
def wallFields : EntryClass :=
  .pixel 3 #v[some (wallWindow 0 0), some (wallWindow 960 0), some (wallWindow 0 540),
    some (wallWindow 960 540)]

/-- The fields of a command stream of the wall with this Return limit. -/
def wallCommand (limit : Nat) : EntryClass :=
  .command 256 limit [{ lead := 0x51, continuation := 0x52 }]

/-- The entries of streams 0, 1, 2 and 5 of the wall. -/
def wallBank : Bank :=
  (((((Vector.replicate 31 StreamEntry.off).set 0 (.on 15 0 wallFields)).set 1
    (.on 15 1 (wallCommand 16))).set 2 (.on 1 1 (wallCommand 64))).set 5 (.on 8 1 (wallCommand 64)))

/-- The wall of section 2.7, running. -/
def wall : State := up.withTable { active := wallBank, staged := wallBank, commit := .none }

/-- A header. -/
def header (kind : Byte) (stream : Nat) (ack : Bool) (tag : Tag) (length : Nat) : Header :=
  { kind := kind, stream := stream, ackRequest := ack, tag := tag, line := 0, column := 0
    length := length }

/-- The host is in a burst, with this header in progress. -/
def inPacket (s : State) (h : Header) : State :=
  onUpstream s fun x => { x with rx := .inBurst, inProgress := some h }

/-- The host is in a burst, with no packet in progress. -/
def inBurst (s : State) : State := onUpstream s fun x => { x with rx := .inBurst }

/-- A packet from a tile with a good header and payload check. -/
def tilePacket (kind : Byte) (tag : Tag) (payload : List Byte) : TilePacket :=
  { header := composeHeader kind 0 false tag 0 0 payload.length, payload := payload
    check := crc16 payload }

/-- An exchange. -/
def exchange (tag : Tag) (answers : Answers) : Exchange :=
  { tag := tag, answers := answers, reply := none, errorWord := none, ackSeen := false
    badCheck := false, oversize := false, orphan := false }

/-- A port whose tile holds the link in this exchange. -/
def lent (phase : PortPhase) (rx : RxState) (e : Exchange) : Port :=
  { resting with
    phase := phase, holder := .tile, rx := rx, exchange := some e
    answerTimer := if phase = .waiting then some 1000 else none }

/-- A WRITE piece. -/
def piece (tag : Tag) (ack : Bool) (index count : Nat) (link : Option Tag) : Piece :=
  { kind := .write, outStream := 1, tag := tag, ackRequest := ack, position := none, payload := [0x30]
    answerRequired := ack, returnLimit := none, place := some { index := index, count := count }
    link := link }

/-- A port that sends the head of this queue. -/
def sending (queue : List Piece) : Port :=
  { resting with phase := .sending, tx := .piece ((queue.head?).elim [] Piece.wire), queue := queue }

/-- An OPEN record with these parts. -/
def opened (kind : RequestKind) (parts : List PortRecord) : Transaction :=
  { kind := kind, stream := 2, state := .opened, deadline := some 1, parts := parts, data := none }

/-- A part that is not settled. -/
def part (p : PortId) (state : PartState) : PortRecord :=
  { port := p, state := state, isPartial := false, errorWord := none }

/-- A return turn at this phase. -/
def inTurn (s : State) (budget sent : Nat) (phase : TurnPhase) : State :=
  onUpstream s fun x => { x with
    direction := .holder, turn := some { budget := budget, sent := sent, phase := phase, wire := [] } }

/-- An event in a shared slot. -/
def event : Entry := { kind := .event, tag := 0, stream := 31, payload := [4, 0], slot := .shared }

/-- A completion REPORT of tag 3. -/
def report : Entry :=
  { kind := .report, tag := 3, stream := 2, payload := [0x21, 0, 1, 0, 2, 0, 0, 0], slot := .reportOf 3 }

/-! ### Well-formedness: each check refuses an ill-formed term -/

theorem test_cut_too_long_host :
    (Instr.upstreamBurstOpen (List.replicate 4108 0)).wellFormed = false := by decide +kernel
theorem test_cut_too_long_host_close :
    (Instr.upstreamBurstClose (List.replicate 4108 0)).wellFormed = false := by decide +kernel
theorem test_cut_too_long_tile :
    (Instr.tileBurstOpen 0 (List.replicate 4108 0)).wellFormed = false := by decide +kernel
theorem test_cut_too_long_tile_close :
    (Instr.tileBurstClose 0 (List.replicate 4108 0)).wellFormed = false := by decide +kernel
theorem test_header_of_nine_bytes :
    (Instr.headerArrival (List.replicate 9 0)).wellFormed = false := by decide +kernel
theorem test_payload_empty : (Instr.packetArrival [] 0).wellFormed = false := by decide +kernel
theorem test_payload_too_long :
    (Instr.packetArrival (List.replicate 4097 0) 0).wellFormed = false := by decide +kernel
theorem test_tile_header_of_eleven_bytes :
    (Instr.replyArrival 0 { header := List.replicate 11 0, payload := [], check := 0 }).wellFormed
      = false := by decide +kernel
theorem test_tile_payload_too_long :
    (Instr.faultArrival 0
      { header := List.replicate 10 0, payload := List.replicate 4097 0, check := 0 }).wellFormed
      = false := by decide +kernel
theorem test_tile_bad_packet_ill_formed :
    (Instr.tileBadPacket 0 { header := [], payload := [], check := 0 }).wellFormed = false := by
  decide +kernel
theorem test_tile_stray_packet_ill_formed :
    (Instr.tileStrayPacket 0 { header := [], payload := [], check := 0 }).wellFormed = false := by
  decide +kernel

/-! ### Wire formats -/

/-- The catalogued check values of the two polynomials of R11 over the digits 1 to 9. -/
theorem test_crc8_of_digits :
    crc8 [0x31, 0x32, 0x33, 0x34, 0x35, 0x36, 0x37, 0x38, 0x39] = 0xF4 := by decide +kernel
theorem test_crc16_of_digits :
    crc16 [0x31, 0x32, 0x33, 0x34, 0x35, 0x36, 0x37, 0x38, 0x39] = 0x29B1 := by decide +kernel

/-- The header of a slice in section 10.2. -/
theorem test_slice_header :
    composeHeader 0x11 0 false 0 60 320 1920
      = [0x11, 0x00, 0x00, 0x3C, 0x0A, 0x00, 0x00, 0x07, 0x80, 0x8D] := by decide +kernel
theorem test_slice_header_read :
    (judgeHeader [0x11, 0x00, 0x00, 0x3C, 0x0A, 0x00, 0x00, 0x07, 0x80, 0x8D]).map
      (fun h => (h.kind, h.line, h.column, h.length)) = some (0x11, 60, 320, 1920) := by decide +kernel

/-- The table gives no row any bits, so no word spells a command. -/
theorem test_no_word_spells_a_command :
    decodeTableWord 8 0 = none ∧ State.reset.withFetchWord 8 0 = State.reset := by decide +kernel

/-! ### The slicer's worked examples -/

/-- Packet A of section 4.6 gives ports 2 and 3 slices of 2880 and 960 bytes at line 60, column 0. -/
theorem test_wall_line :
    (slicePacket .line { header 0x11 0 false 0 3840 with line := 600 } (List.replicate 3840 0) 0
        wallFields [0, 1, 2, 3] fun _ => none).map
      (fun x => (x.port, x.pieces.map fun y => (y.position, y.payload.length)))
      = [(2, [(some { line := 60, column := 0 }, 2880)]),
         (3, [(some { line := 60, column := 0 }, 960)])] := by decide +kernel

/-- The WRITE of 701 bytes of section 4.8. -/
theorem test_partitioned_write :
    (writePieces 1 256 [{ lead := 0x51, continuation := 0x52 }] (header 0x20 1 true 4 701)
        (0x51 :: List.replicate 700 0)).map
      (fun x => (x.payload.headD 0, x.payload.length, x.answerRequired))
      = [(0x51, 256, false), (0x52, 256, false), (0x52, 191, true)] := by decide +kernel

/-! ### Reset and the upstream link -/

theorem test_reset : after .reset wall = State.reset := by decide +kernel

/-- The burst with a bad header of section 1.8. -/
theorem test_burst_open : (after (.upstreamBurstOpen []) up).upstream.rx = .inBurst := by decide +kernel
theorem test_burst_open_truncates :
    (after (.upstreamBurstOpen [0x10]) (inBurst up)).upstream.counts.truncatedPackets = 1 := by
  decide +kernel
theorem test_bad_header :
    let t := (after (.headerArrival (List.replicate 10 1)) (inBurst up)).upstream
    t.rx = .desync ∧ t.counts.headerErrors = 1 ∧ t.counts.desyncBursts = 1 := by decide +kernel
theorem test_read_header_in_progress :
    (after (.headerArrival (composeHeader 0x21 2 false 3 0 0 3)) (inBurst up)).upstream.inProgress
      = some (header 0x21 2 false 3 3) := by decide +kernel
theorem test_packet_check_fails :
    let t := after (.packetArrival [0x0A] 0) (inPacket wall (header 0x21 2 false 3 1))
    t.upstream.counts.payloadErrors = 1 ∧ answers t = [[0x21, 1, 9]] := by decide +kernel
theorem test_packet_read_admitted :
    let t := after (.packetArrival [0x0A, 0, 0] (crc16 [0x0A, 0, 0]))
      (inPacket wall (header 0x21 5 false 1 3))
    ((t.port 3).queue.map Piece.kind, (t.port 3).limit, (t.record 1).map Transaction.parts)
      = ([.limit, .read], some 64, some [part 3 .queued]) := by decide +kernel
theorem test_burst_close : (after (.upstreamBurstClose []) (inBurst up)).upstream.rx = .resting := by
  decide +kernel
theorem test_burst_close_truncates :
    (after (.upstreamBurstClose []) (inPacket wall (header 0x21 2 false 3 1))).ingress.refusals[8]
      = 1 := by decide +kernel
theorem test_stray_data : (after (.strayDataSymbol 7) up).upstream.counts.desyncBursts = 1 := by
  decide +kernel
theorem test_host_pass : (after .hostPass up).upstream.direction = .holder := by decide +kernel
theorem test_host_pass_carries_lost :
    (after .hostPass (up.withRet { up.ret with lost := .set })).ret.lost = .carried := by decide +kernel
theorem test_hub_clear :
    let t := after .hubClear up
    t.upstream.counts.hubClears = 1 ∧ (t.port 0).phase = .clearing .ready := by decide +kernel
theorem test_token_error :
    (after (.upstreamTokenError 0x2D) up).upstream.counts.tokenErrors = 1 := by decide +kernel
theorem test_token_pass_is_no_error : after (.upstreamTokenError 0xB4) up = up := by decide +kernel
theorem test_upstream_collision :
    let t := (after .upstreamCollision (inTurn up 8 0 .room)).upstream
    t.direction = .follower ∧ t.counts.collisions = 1 := by decide +kernel
theorem test_room_sent :
    ((after .roomSent (inTurn (up.withRet { up.ret with entries := [event] }) 4 0 .room)).upstream.turn).map
      (fun x => (x.phase, x.wire)) = some (.entry, event.wire) := by decide +kernel
theorem test_entry_sent_frees_record :
    let s := (up.setRecord 3 (some { opened .read [] with state := .done })).withRet
      { up.ret with entries := [report, event] }
    let t := after .entrySent (inTurn s 4 2 .entry)
    t.record 3 = none ∧ t.ret.entries = [event] := by decide +kernel
theorem test_entry_sent_budget_reached :
    (after .entrySent (inTurn (up.withRet { up.ret with entries := [event, event] }) 4 3
      .entry)).upstream.turn.map Turn.phase = some .closing := by decide +kernel
theorem test_turn_pass_sent :
    (after .returnTurnPassSent (inTurn up 4 4 .closing)).upstream.direction = .follower := by
  decide +kernel

/-! ### The tile links -/

theorem test_piece_sent_normal_end :
    let t := (after (.pieceSent 0) (up.setPort 0 { sending [piece 1 false 1 1 none] with
      failures := 2 })).port 0
    t.phase = .ready ∧ t.failures = 0 ∧ t.counts.piecesSent = 1 := by decide +kernel
theorem test_piece_sent_answer :
    ((after (.pieceSent 0) (up.setPort 0 (sending [piece 4 true 1 1 (some 4)]))).port 0).pendingAnswer
      = some { tag := 4, answers := .write, link := some 4 } := by decide +kernel
theorem test_exchange_open :
    let s := (up.setPort 0 { sending [] with
      tx := .passAnswer, pendingAnswer := some { tag := 4, answers := .write, link := some 4 } })
      |>.setRecord 4 (some (opened .write [part 0 .queued]))
    let t := after (.exchangeOpen 0) s
    (t.port 0).phase = .waiting ∧ (t.port 0).answerTimer = some 1000
      ∧ (t.record 4).map Transaction.parts = some [part 0 .awaiting] := by decide +kernel
theorem test_watch_open :
    ((after (.watchOpen 0) (up.setPort 0 { resting with tx := .passWatch })).port 0).phase
      = .watching := by decide +kernel
theorem test_reply_stored :
    ((after (.replyArrival 1 (tilePacket 0x40 6 [1, 2]))
      (up.setPort 1 (lent .waiting .inBurst (exchange 6 (.read 2))))).port 1).exchange.map
        Exchange.reply = some (some [1, 2]) := by decide +kernel
theorem test_reply_oversize :
    ((after (.replyArrival 1 (tilePacket 0x40 6 [1, 2, 3]))
      (up.setPort 1 (lent .waiting .inBurst (exchange 6 (.read 2))))).port 1).exchange.map
        (fun e => (e.reply, e.oversize)) = some (none, true) := by decide +kernel
theorem test_fault_stored :
    ((after (.faultArrival 1 (tilePacket 0x45 6 [0x12, 0x34]))
      (up.setPort 1 (lent .waiting .inBurst (exchange 6 .write)))).port 1).exchange.map
        Exchange.errorWord = some (some 0x1234) := by decide +kernel
theorem test_ack_seen :
    ((after (.ackToken 1) (up.setPort 1 (lent .waiting .resting (exchange 6 .write)))).port 1).exchange.map
      Exchange.ackSeen = some true := by decide +kernel
theorem test_ack_in_read_is_stray :
    ((after (.ackToken 1) (up.setPort 1 (lent .waiting .resting (exchange 6 (.read 2))))).port
      1).counts.strayAnswers = 1 := by decide +kernel
/-- G4 of section 8.7: the last present member reports. -/
theorem test_sync_completes_round :
    let s := (onGroup up 0 fun x => { x with
      members := 7, mode := .repeating, window := 2000, reported := 3, timer := some 1300 }).setPort 2
        (lent .watching .resting watchExchange)
    let t := after (.syncToken 2) s
    (t.group 0).roundNumber = 1 ∧ (t.group 0).reported = 0 ∧ answers t = [[2, 0, 0, 0]] := by
  decide +kernel
theorem test_sync_unwatched :
    (after (.syncToken 2) (up.setPort 2 (lent .watching .resting watchExchange))).sync.unwatchedSyncs
      = 1 := by decide +kernel
theorem test_tile_pass_resolves :
    let s := (up.setPort 0 (lent .waiting .resting { exchange 4 .write with ackSeen := true }))
      |>.setRecord 4 (some (opened .write [part 0 .awaiting]))
    let t := after (.tilePass 0) s
    (t.port 0).phase = .ready ∧ answers t = [[0x20, 0, 1, 0, 1, 0, 0, 0]] := by decide +kernel
theorem test_tile_bad_packet :
    let t := (after (.tileBadPacket 0 { header := List.replicate 10 1, payload := [], check := 0 })
      (up.setPort 0 (lent .waiting .inBurst (exchange 4 .write)))).port 0
    t.rx = .desync ∧ t.counts.badChecks = 1 ∧ t.exchange.map Exchange.badCheck = some true := by
  decide +kernel
theorem test_tile_stray_packet :
    ((after (.tileStrayPacket 0 (tilePacket 0x41 4 []))
      (up.setPort 0 (lent .waiting .inBurst (exchange 4 .write)))).port 0).counts.strayAnswers = 1 := by
  decide +kernel
theorem test_tile_token_error :
    ((after (.tileTokenError 0 0xC9)
      (up.setPort 0 (lent .waiting .resting (exchange 4 .write)))).port 0).counts.strayAnswers = 1 := by
  decide +kernel
theorem test_tile_burst_open :
    ((after (.tileBurstOpen 0 []) (up.setPort 0 (lent .waiting .desync (exchange 4 .write)))).port 0).rx
      = .inBurst := by decide +kernel
theorem test_tile_burst_close_truncates :
    ((after (.tileBurstClose 0 [0x40])
      (up.setPort 0 (lent .waiting .inBurst (exchange 4 .write)))).port 0).counts.badChecks = 1 := by
  decide +kernel
theorem test_tile_stray_data :
    ((after (.tileStrayData 0 9) (up.setPort 0 (lent .waiting .resting (exchange 4 .write)))).port 0).rx
      = .desync := by decide +kernel
/-- The collision of section 1.8. -/
theorem test_tile_collision :
    let t := (after (.tileCollision 1) (up.setPort 1 (sending [piece 1 false 1 1 none]))).port 1
    t.phase = .clearing .ready ∧ t.seize = some 20 ∧ t.counts.collisions = 1 ∧ t.counts.failures = 1 := by
  decide +kernel
theorem test_tile_collision_in_seize :
    let s := up.setPort 1 { resting with phase := .clearing .ready, holder := .tile, seize := some 5 }
    after (.tileCollision 1) s = s := by decide +kernel
/-- G10 of section 8.7: the third failure in a row, or the first under a limit of 1, leads DOWN. -/
theorem test_answer_timeout_at_limit :
    ((after (.answerTimerExpiry 2)
      (up.setPort 2 { lent .waiting .resting (exchange 6 (.read 2)) with failureLimit := 1 })).port
        2).phase = .clearing (.down .failed) := by decide +kernel
theorem test_seize_complete :
    ((after (.seizeComplete 1) (up.setPort 1 { resting with
      phase := .clearing .ready, holder := .tile, seize := some 20 })).port 1).tx = .clear := by
  decide +kernel
/-- G11 of section 8.7: PORT-DOWN first, and then the round of the members left completes. -/
theorem test_clear_sent_down :
    let s := (onGroup up 0 fun x => { x with
      members := 7, mode := .repeating, reported := 3, timer := some 9, roundNumber := 1 }).setPort 2
        { resting with phase := .clearing (.down .failed), tx := .clear }
    answers (after (.clearSent 2) s) = [[5, 2, 1], [2, 0, 0, 1]] := by decide +kernel
theorem test_clear_sent_ready :
    ((after (.clearSent 0) State.reset).port 0).phase = .ready := by decide +kernel
theorem test_deadline_expires :
    let s := up.setRecord 4 (some (opened .write [part 0 .queued, part 1 (.resolved .ack)]))
    let t := after (.deadlineExpiry 4) s
    (t.record 4).map Transaction.parts = some [part 0 (.resolved .expired), part 1 (.resolved .ack)]
      ∧ answers t = [[0x20, 0, 2, 0, 8, 0, 0, 0, 1, 1, 0, 0, 0]] := by decide +kernel
/-- G7 of section 8.7: the window expires with ports 0 and 2 reported. -/
theorem test_window_expires :
    answers (after (.syncWindowExpiry 0) (onGroup up 0 fun x => { x with
      members := 7, mode := .repeating, reported := 5, timer := some 1, roundNumber := 1 }))
      = [[3, 0, 5]] := by decide +kernel

/-! ### The management rows -/

theorem test_info :
    answers (after .info (asked [1] up)) = [[1, 0, 0x54, 0x34, 1, 4, 31, 16, 64, 0x20, 0, 16]] := by
  decide +kernel
theorem test_stage_entry :
    (after .stageEntry (asked ([2, 0] ++ (StreamEntry.on 15 0 wallFields).encode) up)).table.staged[0]
      = .on 15 0 wallFields := by decide +kernel
/-- Step 7 of section 2.7: first column 7680 with width 960. -/
theorem test_stage_entry_bad :
    answers (after .stageEntry (asked [2, 6, 1, 1, 1, 0, 3, 0x1E, 0, 3, 0xC0, 0, 0, 2, 0x1C] up))
      = [[2, 4]] := by decide +kernel
theorem test_stage_off : (after .stageOff (asked [3, 0] wall)).table.staged[0] = .off := by
  decide +kernel
theorem test_stage_copy_busy :
    answers (after .stageCopy (asked [4] (wall.withTable { wall.table with commit := .pendingFrame })))
      = [[4, 2]] := by decide +kernel
theorem test_read_entry :
    answers (after .readEntry (asked [5, 2, 0] wall))
      = [[5, 0, 1, 2, 1, 1, 1, 0, 0, 64, 1, 0x51, 0x52]] := by decide +kernel
theorem test_commit_now :
    (after .commitNow (asked [6, 0] (up.withTable { up.table with staged := wallBank }))).table.active
      = wallBank := by decide +kernel
theorem test_commit_at_frame :
    let t := after .commitAtFrame (asked [6, 1] wall)
    t.table.commit = .pendingFrame ∧ answers t = [[6, 1]] := by decide +kernel
theorem test_commit_cancel_none : answers (after .commitCancel (asked [7] wall)) = [[7, 5]] := by
  decide +kernel
theorem test_port_set :
    ((after .portSet (asked [8, 2, 0xC3, 0x50, 1] up)).port 2).answerTimeout = 50000 := by decide +kernel
theorem test_port_set_bad : answers (after .portSet (asked [8, 2, 0xC3, 0x51, 1] up)) = [[8, 3]] := by
  decide +kernel
theorem test_port_stop_held :
    let t := after .portStop (asked [9, 1] up)
    (t.port 1).phase = .clearing (.down .stopped) ∧ answers t = [] ∧ t.agent.inExecution.isSome := by
  decide +kernel
theorem test_port_stop_down :
    answers (after .portStop (asked [9, 1] (up.setPort 1 { resting with phase := .down .failed })))
      = [[9, 0, 1]] := by decide +kernel
theorem test_port_restart :
    ((after .portRestart (asked [10, 1] (up.setPort 1 { resting with
      phase := .down .failed, failures := 3 }))).port 1).failures = 0 := by decide +kernel
theorem test_port_read :
    answers (after .portRead (asked [11, 3] up)) = [[11, 0, 1, 0, 0, 0x03, 0xE8, 3, 0, 0, 0, 0, 0, 0]] := by
  decide +kernel
theorem test_sync_set :
    ((after .syncSet (asked [12, 0, 7, 2, 0x07, 0xD0] up)).group 0).window = 2000 := by decide +kernel
theorem test_sync_set_overlap :
    answers (after .syncSet (asked [12, 1, 1, 2, 0, 1] (onGroup up 0 fun x => { x with members := 7 })))
      = [[12, 3]] := by decide +kernel
theorem test_sync_read :
    answers (after .syncRead (asked [13, 0] up)) = [[13, 0, 0, 0, 0x03, 0xE8, 0, 0, 0, 0, 0, 0]] := by
  decide +kernel
theorem test_return_set :
    (after .returnSet (asked [14, 4, 15, 0, 0] up)).txns.deadlineMs = 0 := by decide +kernel
theorem test_return_set_bad : answers (after .returnSet (asked [14, 33, 15, 0, 0] up)) = [[14, 3]] := by
  decide +kernel
theorem test_tag_read_free : answers (after .tagRead (asked [15, 15] up)) = [[15, 0, 0]] := by
  decide +kernel
theorem test_counters_read :
    answers (after .countersRead (asked [16, 5, 0] up)) = [[16, 0, 0, 0, 0, 0, 0, 0, 0, 0, 0, 0, 0, 0]] := by
  decide +kernel
theorem test_counters_clear :
    ((after .countersClear (asked [17, 4, 0] (onPort up 0 fun x => { x with
      counts := { x.counts with bursts := 9 } }))).port 0).counts.bursts = 0 := by decide +kernel
theorem test_unknown_command : answers (after .unknownCommand (asked [0x12] up)) = [[0x12, 6]] := by
  decide +kernel

/-! ### Witnesses: concrete states and operands that meet the hypotheses of each statement

Each theorem is named after its statement, and after the clause where the statement has several. -/

/-- The staged command and what waits behind it, for the statements of the management rows. -/
def rest : List MgmtCommand := [command [1]]

/-- The agent may take this payload next, with one more command behind it. -/
def offered (payload : List Byte) (s : State) : State :=
  s.withAgent { queue := command payload :: rest, inExecution := none }

theorem witness_StepRunsTheFrontCommand :
    (up.withPending [.hubClear, .info]).pending = .hubClear :: [.info] := rfl
theorem witness_AnIdleStepIsOneMicrosecond : up.pending = [] := rfl
/-- The longest cut-short packet is well formed, and one byte more is not. -/
theorem test_cut_at_the_limit :
    (Instr.upstreamBurstOpen (List.replicate 4107 0)).wellFormed = true
      ∧ (Instr.upstreamBurstOpen (List.replicate 4108 0)).wellFormed = false := by decide +kernel
/-- Nine bytes are no header yet (assumption log 1). -/
theorem test_nine_header_bytes_do_nothing :
    after (.headerArrival (List.replicate 9 1)) (inBurst up) = inBurst up := by decide +kernel

/-! The upstream link. -/

theorem witness_BurstOpenAndCloseFrameTheHostsPackets_boundary :
    cutFits (List.replicate 4107 0) = true ∧ (inBurst up).upstream.direction = .follower
      ∧ (inBurst up).upstream.inProgress = none := by decide +kernel
theorem witness_BurstOpenAndCloseFrameTheHostsPackets_truncated :
    let s := inPacket up (header 0x21 2 false 3 1)
    cutFits [] = true ∧ s.upstream.direction = .follower ∧ s.upstream.rx = .inBurst
      ∧ s.upstream.inProgress = some (header 0x21 2 false 3 1) := by decide +kernel
theorem witness_ADataSymbolOutsideABurstDesynchronises_resting :
    up.upstream.direction = .follower ∧ up.upstream.rx = .resting := by decide +kernel
theorem witness_ADataSymbolOutsideABurstDesynchronises_desync :
    let s := onUpstream up fun x => { x with rx := .desync }
    s.upstream.direction = .follower ∧ s.upstream.rx = .desync ∧ cutFits [] = true := by decide +kernel
theorem witness_AHeaderIsJudgedAtItsTenthByte_bad :
    let bytes : List Byte := List.replicate 10 1
    headerFits bytes = true ∧ (inBurst up).upstream.direction = .follower
      ∧ (inBurst up).upstream.rx = .inBurst ∧ (inBurst up).upstream.inProgress = none
      ∧ judgeHeader bytes = none := by decide +kernel
theorem witness_AHeaderIsJudgedAtItsTenthByte_empty :
    let bytes := composeHeader 0x10 0 false 0 0 0 0
    headerFits bytes = true ∧ (inBurst up).upstream.direction = .follower
      ∧ (inBurst up).upstream.rx = .inBurst ∧ (inBurst up).upstream.inProgress = none
      ∧ judgeHeader bytes = some (header 0x10 0 false 0 0) := by decide +kernel
theorem witness_AHeaderIsJudgedAtItsTenthByte_longest :
    let bytes := composeHeader 0x20 2 true 3 0 0 4096
    headerFits bytes = true ∧ (inBurst up).upstream.direction = .follower
      ∧ (inBurst up).upstream.rx = .inBurst ∧ (inBurst up).upstream.inProgress = none
      ∧ judgeHeader bytes = some (header 0x20 2 true 3 4096) := by decide +kernel
theorem witness_AHeaderIsJudgedAtItsTenthByte_desync :
    let s := onUpstream up fun x => { x with rx := .desync }
    headerFits (List.replicate 10 1) = true ∧ s.upstream.direction = .follower
      ∧ s.upstream.rx = .desync ∧ payloadFits [0] = true
      ∧ payloadFits (List.replicate 4096 0) = true := by decide +kernel
theorem witness_ACompletePacketIsHandedOverOrNoticed :
    (inPacket wall (header 0x21 2 false 3 1)).awaits (header 0x21 2 false 3 1) [0x0A] := by
  decide +kernel
theorem witness_WrongHostTokensAreOnlyCounted :
    (inBurst up).upstream.direction = .follower ∧ (inBurst up).upstream.rx ≠ .resting
      ∧ up.upstream.direction = .follower ∧ up.upstream.rx = .resting
      ∧ (0x2D : Byte) ≠ 0xB4 ∧ (0x2D : Byte) ≠ 0xC9 := by decide +kernel

/-! Ingress. -/

/-- A header for each clause on notices, the streams at the ends of their ranges. -/
theorem witness_NoticesAndRefusalsAreCountedAndReported :
    ((header 0x21 30 false 3 1).kind = 0x21 ∧ (header 0x21 30 false 3 1).stream ≤ 30)
      ∧ ((header 0x20 0 true 3 1).kind = 0x20 ∧ (header 0x20 0 true 3 1).ackRequest = true
          ∧ (header 0x20 0 true 3 1).stream ≤ 30)
      ∧ ((header 0x30 31 false 3 1).kind = 0x30 ∧ (header 0x30 31 false 3 1).stream = 31)
      ∧ ((header 0x11 0 false 3 1).kind ≠ 0x20 ∧ (header 0x11 0 false 3 1).kind ≠ 0x21
          ∧ (header 0x11 0 false 3 1).kind ≠ 0x30)
      ∧ ((header 0x20 2 false 3 1).kind = 0x20 ∧ (header 0x20 2 false 3 1).ackRequest = false)
      ∧ ((header 0x21 31 false 3 1).kind = 0x21 ∧ (header 0x21 31 false 3 1).stream = 31)
      ∧ ((header 0x30 30 false 3 1).kind = 0x30 ∧ (header 0x30 30 false 3 1).stream ≠ 31) := by
  decide +kernel
/-- A kind that the host may not send, a MGMT on stream 30, and a READ on stream 31. -/
theorem witness_KindErrorsAreCountedAndDiscarded :
    (header 0x22 2 false 3 1).kind ∉ [0x10#8, 0x11#8, 0x20#8, 0x21#8, 0x30#8]
      ∧ ((header 0x30 30 false 3 1).kind = 0x30 ∧ (header 0x30 30 false 3 1).stream ≠ 31)
      ∧ ((header 0x21 31 false 3 1).kind ≠ 0x30 ∧ (header 0x21 31 false 3 1).stream = 31) := by
  decide +kernel
theorem witness_ManagementPacketsAreAcceptedOrDiscarded_accepted :
    (header 0x30 31 false 3 1).kind = 0x30 ∧ (header 0x30 31 false 3 1).stream = 31
      ∧ 1 ≤ (header 0x30 31 false 3 64).length ∧ (header 0x30 31 false 3 64).length ≤ 64
      ∧ up.ret.freeShared ≠ 0 ∧ (up.withAgent { queue := List.replicate 3 (command [1])
                                                inExecution := none }).agent.queue.length < 4 := by
  decide +kernel
theorem witness_ManagementPacketsAreAcceptedOrDiscarded_overrun :
    let s := up.withAgent { queue := List.replicate 4 (command [1]), inExecution := none }
    (header 0x30 31 false 3 1).kind = 0x30 ∧ (header 0x30 31 false 3 1).stream = 31
      ∧ 1 ≤ (header 0x30 31 false 3 1).length ∧ (header 0x30 31 false 3 1).length ≤ 64
      ∧ s.ret.freeShared ≠ 0 ∧ 4 ≤ s.agent.queue.length := by decide +kernel
theorem witness_ManagementPacketsAreAcceptedOrDiscarded_no_slot :
    (header 0x30 31 false 3 1).kind = 0x30 ∧ (header 0x30 31 false 3 1).stream = 31
      ∧ 1 ≤ (header 0x30 31 false 3 1).length ∧ (header 0x30 31 false 3 1).length ≤ 64
      ∧ (up.withRet { up.ret with entries := List.replicate 16 event }).ret.freeShared = 0 := by
  decide +kernel
theorem witness_ManagementPacketsAreAcceptedOrDiscarded_wrong_length :
    (header 0x30 31 false 3 0).kind = 0x30 ∧ (header 0x30 31 false 3 0).stream = 31
      ∧ (header 0x30 31 false 3 65).kind = 0x30 ∧ (header 0x30 31 false 3 65).stream = 31
      ∧ ¬ (1 ≤ (header 0x30 31 false 3 0).length ∧ (header 0x30 31 false 3 0).length ≤ 64)
      ∧ ¬ (1 ≤ (header 0x30 31 false 3 65).length ∧ (header 0x30 31 false 3 65).length ≤ 64) := by
  decide +kernel

/-- The stream kind of a header, its stream, and that it takes no commit. -/
abbrev judged (s : State) (h : Header) (kind : StreamKind) (id : Fin 31) : Prop :=
  hostKind h.kind = some (.stream kind) ∧ h.stream = id.val ∧ s.takesNoCommit kind h id

/-- The reason of the first check that fails on a stream of the wall. -/
def firstReason (h : Header) (kind : StreamKind) (payload : List Byte) (members : PortSet)
    (fields : EntryClass) (held : Bool) : Option (Bool × RefusalReason) :=
  (headChecks kind h payload members fields held).find? Prod.fst

theorem witness_TheFirstFailingCheckGivesTheReason_off :
    judged wall (header 0x11 30 false 0 3) .line 30 ∧ wall.table.active[(30 : Fin 31)] = .off := by
  decide +kernel
theorem witness_TheFirstFailingCheckGivesTheReason_pixel_reasons :
    judged wall (header 0x21 0 false 0 3) .read 0
      ∧ wall.table.active[(0 : Fin 31)] = .on 15 0 wallFields
      ∧ firstReason (header 0x21 0 false 0 3) .read [] 15 wallFields false = some (true, .classMismatch)
      ∧ judged wall (header 0x10 0 false 0 1) .frameStart 0
      ∧ firstReason (header 0x10 0 false 0 1) .frameStart [] 15 wallFields false
          = some (true, .malformed)
      ∧ judged wall (header 0x11 0 false 0 4) .line 0
      ∧ firstReason (header 0x11 0 false 0 4) .line [] 15 wallFields false
          = some (true, .malformed) := by decide +kernel
theorem witness_TheFirstFailingCheckGivesTheReason_command_reasons :
    judged wall (header 0x21 1 false 0 1) .read 1
      ∧ wall.table.active[(1 : Fin 31)] = .on 15 1 (wallCommand 16)
      ∧ firstReason (header 0x11 1 false 0 1) .line [] 15 (wallCommand 16) false
          = some (true, .classMismatch)
      ∧ firstReason (header 0x20 1 false 0 0) .write [] 15 (wallCommand 16) false
          = some (true, .malformed)
      ∧ firstReason (header 0x21 1 false 0 17) .read [] 15 (wallCommand 16) false
          = some (true, .tooLong)
      ∧ firstReason (header 0x21 1 false 0 16) .read [] 15 (wallCommand 16) true
          = some (true, .tagBusy)
      ∧ firstReason (header 0x21 1 false 0 16) .read [] 15 (wallCommand 16) false
          = some (true, .multiRead)
      ∧ firstReason (header 0x20 1 false 0 257) .write [0x30] 15 (wallCommand 16) false
          = some (true, .tooLong) := by decide +kernel
theorem witness_TheFirstFailingCheckGivesTheReason_unmapped :
    let h := { header 0x11 0 false 0 3 with line := 1080 }
    judged wall h .line 0 ∧ wall.table.active[(0 : Fin 31)] = .on 15 0 wallFields
      ∧ (∀ c ∈ headChecks .line h [1, 2, 3] 15 wallFields (wall.record h.tag).isSome, c.1 = false)
      ∧ wall.sliceFor .line h [1, 2, 3] 15 0 wallFields = [] := by decide +kernel
theorem witness_TheFirstFailingCheckGivesTheReason_no_port :
    let s := wall.setPort 3 { resting with phase := .down .failed }
    let h := header 0x21 5 false 1 1
    judged s h .read 5 ∧ s.table.active[(5 : Fin 31)] = .on 8 1 (wallCommand 64)
      ∧ (∀ c ∈ headChecks .read h [0x0A] 8 (wallCommand 64) (s.record h.tag).isSome, c.1 = false)
      ∧ s.sliceFor .read h [0x0A] 8 1 (wallCommand 64) = [] := by decide +kernel
/-- Section 4.9: one free piece and a READ that needs a LIMIT piece beside its own. -/
theorem witness_TheFirstFailingCheckGivesTheReason_no_room :
    let s := wall.setPort 3 (sending (List.replicate 63 (piece 0 false 1 1 none)))
    let h := header 0x21 5 false 8 1
    judged s h .read 5 ∧ s.table.active[(5 : Fin 31)] = .on 8 1 (wallCommand 64)
      ∧ (∀ c ∈ headChecks .read h [0x0A] 8 (wallCommand 64) (s.record h.tag).isSome, c.1 = false)
      ∧ s.queuesFit ∧ (s.sliceFor .read h [0x0A] 8 1 (wallCommand 64)).any (fun x =>
          decide (64 < (s.port x.port).queue.length + x.pieces.length)) = true := by decide +kernel
theorem witness_AnAdmittedPacketReachesAllItsTargets_read :
    let h := header 0x21 5 false 1 1
    let targets := wall.sliceFor .read h [0x0A] 8 1 (wallCommand 64)
    judged wall h .read 5 ∧ wall.table.active[(5 : Fin 31)] = .on 8 1 (wallCommand 64)
      ∧ (∀ c ∈ headChecks .read h [0x0A] 8 (wallCommand 64) (wall.record h.tag).isSome, c.1 = false)
      ∧ targets ≠ [] ∧ (∀ x ∈ targets, (wall.port x.port).queue.length + x.pieces.length ≤ 64
          ∧ queueBytes (wall.port x.port).queue + queueBytes x.pieces ≤ 8192) := by decide +kernel
/-- A frame start whose pieces just fit: 63 pieces wait at port 3. -/
theorem witness_AnAdmittedPacketReachesAllItsTargets_last_room :
    let s := wall.setPort 3 (sending (List.replicate 63 (piece 0 false 1 1 none)))
    let h := header 0x10 0 false 0 0
    let targets := s.sliceFor .frameStart h [] 15 0 wallFields
    judged s h .frameStart 0 ∧ s.table.active[(0 : Fin 31)] = .on 15 0 wallFields
      ∧ (∀ c ∈ headChecks .frameStart h [] 15 wallFields (s.record h.tag).isSome, c.1 = false)
      ∧ targets ≠ [] ∧ (∀ x ∈ targets, (s.port x.port).queue.length + x.pieces.length ≤ 64
          ∧ queueBytes (s.port x.port).queue + queueBytes x.pieces ≤ 8192) := by decide +kernel
theorem witness_AQualifyingFrameStartTakesThePendingCommit_qualifies :
    let s := wall.withTable { wall.table with commit := .pendingFrame }
    let h := header 0x10 0 false 0 0
    h.kind = 0x10 ∧ h.stream = (0 : Fin 31).val ∧ s.table.commit = .pendingFrame
      ∧ s.table.active[(0 : Fin 31)] = .on 15 0 wallFields ∧ h.length = 0 := by decide +kernel
/-- A Length of 1, a stream that is OFF, and a command stream. -/
theorem witness_AQualifyingFrameStartTakesThePendingCommit_does_not_qualify :
    let s := wall.withTable { wall.table with commit := .pendingFrame }
    s.table.commit = .pendingFrame ∧ (header 0x10 0 false 0 1).length ≠ 0
      ∧ (header 0x10 30 false 0 0).stream = (30 : Fin 31).val ∧ s.table.active[(30 : Fin 31)] = .off
      ∧ (header 0x10 2 false 0 0).stream = (2 : Fin 31).val
      ∧ s.table.active[(2 : Fin 31)] = .on 1 1 (wallCommand 64) := by decide +kernel

/-! The slicer. -/

/-- Line 539 is the last of the window of port 0 and column 959 its last; line 540 and column 960
miss it. -/
theorem witness_ASliceHoldsThePixelsOfItsWindow :
    let windows : Vector (Option Window) 4 := #v[some (wallWindow 0 0), none, none, none]
    windows[(0 : Fin 4)] = some (wallWindow 0 0) ∧ 0 < 3 ∧ [1#8, 2#8, 3#8].length = 3 ∧ 3 % 3 = 0
      ∧ ((wallWindow 0 0).firstLine ≤ 539 ∧ 539 < (wallWindow 0 0).firstLine + (wallWindow 0 0).height
          ∧ max 959 (wallWindow 0 0).firstColumn
              < min (959 + 3 / 3) ((wallWindow 0 0).firstColumn + (wallWindow 0 0).width))
      ∧ ¬ 540 < (wallWindow 0 0).firstLine + (wallWindow 0 0).height
      ∧ ¬ max 960 (wallWindow 0 0).firstColumn
          < min (960 + 3 / 3) ((wallWindow 0 0).firstColumn + (wallWindow 0 0).width) := by
  decide +kernel
/-- Piece size 16: 15 parameters fit, and 16 are cut under a pair that is the only one of its lead. -/
theorem witness_PacketsAreSlicedForTheirLiveMembers :
    let pair : SplitPair := { lead := 0x51, continuation := 0x52 }
    16 ≤ 16 ∧ (List.replicate 15 0#8).length + 1 ≤ 16 ∧ 16 < (List.replicate 16 0#8).length + 1
      ∧ pair ∈ [pair] ∧ pair.lead = 0x51 ∧ ∀ q ∈ [pair], q.lead = 0x51 → q = pair := by decide +kernel
/-- R57: a WRITE and a FRAME-START to four members of which one is DOWN go to the other three. -/
theorem test_a_down_member_is_no_target :
    let s := wall.setPort 1 { resting with phase := .down .failed }
    ((s.sliceFor .write (header 0x20 1 true 3 2) [0x30, 1] 15 1 (wallCommand 16)).map PortPieces.port)
        = [0, 2, 3]
      ∧ ((s.sliceFor .frameStart (header 0x10 0 false 0 0) [] 15 0 wallFields).map PortPieces.port)
        = [0, 2, 3] := by decide +kernel

/-! Return turns and the hub clear. -/

theorem witness_TheHostsPassOpensAReturnTurn :
    wall.upstream.direction = .follower ∧ wall.upstream.rx = .resting := by decide +kernel
theorem witness_AReturnTurnRunsItsCourse_room :
    let s := inTurn (up.withRet { up.ret with entries := [event] }) 4 0 .room
    s.upstream.direction = .holder
      ∧ s.upstream.turn = some { budget := 4, sent := 0, phase := .room, wire := [] } := by decide +kernel
theorem witness_AReturnTurnRunsItsCourse_report :
    let s := inTurn (up.withRet { up.ret with entries := [report, event] }) 4 3 .entry
    s.upstream.direction = .holder
      ∧ s.upstream.turn = some { budget := 4, sent := 3, phase := .entry, wire := [] }
      ∧ s.ret.entries = report :: [event] ∧ report.slot = .reportOf 3 := by decide +kernel
theorem witness_AReturnTurnRunsItsCourse_event :
    (inTurn (up.withRet { up.ret with entries := [event] }) 4 0 .entry).ret.entries = event :: []
      ∧ ∀ k, event.slot ≠ .reportOf k := by decide +kernel
theorem witness_AReturnTurnRunsItsCourse_closing :
    let s := inTurn up 4 4 .closing
    s.upstream.direction = .holder
      ∧ s.upstream.turn = some { budget := 4, sent := 4, phase := .closing, wire := [] } := by
  decide +kernel
theorem witness_AHubClearDiscardsAllWork :
    wall.upstream.direction = .follower ∧ wall.upstream.rx = .resting := by decide +kernel

/-! The tile ports. -/

theorem witness_APieceSentTakesOneOfThreeCourses_answer :
    let x := sending [piece 4 true 1 1 (some 4)]
    let s := up.setPort 0 x
    (s.port 0).phase = .sending ∧ (s.port 0).tx = .piece (piece 4 true 1 1 (some 4)).wire
      ∧ (s.port 0).queue = piece 4 true 1 1 (some 4) :: []
      ∧ (piece 4 true 1 1 (some 4)).answerRequired = true := by decide +kernel
theorem witness_APieceSentTakesOneOfThreeCourses_next :
    let s := up.setPort 0 (sending [piece 4 false 1 2 none, piece 4 true 2 2 none])
    (s.port 0).phase = .sending ∧ (s.port 0).tx = .piece (piece 4 false 1 2 none).wire
      ∧ (s.port 0).queue = piece 4 false 1 2 none :: [piece 4 true 2 2 none]
      ∧ (piece 4 false 1 2 none).answerRequired = false := by decide +kernel
theorem witness_APieceSentTakesOneOfThreeCourses_last :
    let s := up.setPort 0 (sending [piece 4 false 1 1 none])
    (s.port 0).phase = .sending ∧ (s.port 0).tx = .piece (piece 4 false 1 1 none).wire
      ∧ (s.port 0).queue = piece 4 false 1 1 none :: []
      ∧ (piece 4 false 1 1 none).answerRequired = false := by decide +kernel

/-- A port that sends the PASS after an answer-required piece. -/
def passing (link : Option Tag) : Port :=
  { sending [] with tx := .passAnswer, pendingAnswer := some { tag := 4, answers := .write, link := link } }

theorem witness_AnExchangeOpensWhenItsPassIsSent_orphan :
    let s := up.setPort 0 (passing none)
    (s.port 0).phase = .sending ∧ (s.port 0).tx = .passAnswer
      ∧ (s.port 0).pendingAnswer = some { tag := 4, answers := .write, link := none } := by decide +kernel
theorem witness_AnExchangeOpensWhenItsPassIsSent_linked :
    let s := (up.setPort 0 (passing (some 4))).setRecord 4 (some (opened .write [part 0 .queued]))
    (s.port 0).phase = .sending ∧ (s.port 0).tx = .passAnswer
      ∧ (s.port 0).pendingAnswer = some { tag := 4, answers := .write, link := some 4 }
      ∧ s.record 4 = some (opened .write [part 0 .queued])
      ∧ (opened .write [part 0 .queued]).state = .opened := by decide +kernel
theorem witness_AnExchangeOpensWhenItsPassIsSent_watch :
    let s := up.setPort 0 { resting with tx := .passWatch }
    (s.port 0).phase = .ready ∧ (s.port 0).tx = .passWatch := by decide +kernel
theorem witness_AnExchangeOpensWhenItsPassIsSent_clearing :
    let s := up.setPort 0 { resting with phase := .clearing .ready, tx := .passAnswer }
    let u := up.setPort 0 { resting with phase := .clearing .ready, tx := .passWatch }
    (s.port 0).phase = .clearing .ready ∧ (s.port 0).tx = .passAnswer
      ∧ (u.port 0).phase = .clearing .ready ∧ (u.port 0).tx = .passWatch := by decide +kernel
theorem witness_PacketsFromATileAreJudged_bad_header :
    judgeHeader (List.replicate 10 1) = none := by decide +kernel
/-- A failed check; an empty REPLY; a REPLY of 1 byte; a FAULT of 1 byte and of 2; another kind. -/
theorem witness_PacketsFromATileAreJudged_good_header :
    (judgeHeader (tilePacket 0x40 6 [1]).header = some (header 0x40 0 false 6 1)
        ∧ [1#8].length = 1 ∧ crc16 [1] ≠ 0)
      ∧ judgeHeader (tilePacket 0x40 6 []).header = some (header 0x40 0 false 6 0)
      ∧ crc16 [1] = (tilePacket 0x40 6 [1]).check
      ∧ judgeHeader (tilePacket 0x45 6 [1]).header = some (header 0x45 0 false 6 1)
      ∧ judgeHeader (tilePacket 0x45 6 [1, 2]).header = some (header 0x45 0 false 6 2)
      ∧ judgeHeader (tilePacket 0x41 6 []).header = some (header 0x41 0 false 6 0) := by decide +kernel

/-- A READ exchange of tag 6 and Return limit 2, in a burst of the tile on port 1. -/
def reading : State := up.setPort 1 (lent .waiting .inBurst (exchange 6 (.read 2)))

theorem witness_AReplyIsStoredOversizeOrStray_stored :
    reading.inBurstOf 1 (exchange 6 (.read 2)) ∧ (tilePacket 0x40 6 [1, 2]).fits = true
      ∧ tileVerdict (tilePacket 0x40 6 [1, 2]) = .reply 6 [1, 2]
      ∧ (exchange 6 (.read 2)).tag = 6 ∧ (exchange 6 (.read 2)).reply = none
      ∧ (exchange 6 (.read 2)).oversize = false ∧ (exchange 6 (.read 2)).answers = .read 2
      ∧ [1#8, 2#8].length ≤ 2 := by decide +kernel
theorem witness_AReplyIsStoredOversizeOrStray_oversize :
    reading.inBurstOf 1 (exchange 6 (.read 2)) ∧ (tilePacket 0x40 6 [1, 2, 3]).fits = true
      ∧ tileVerdict (tilePacket 0x40 6 [1, 2, 3]) = .reply 6 [1, 2, 3]
      ∧ (exchange 6 (.read 2)).tag = 6 ∧ (exchange 6 (.read 2)).reply = none
      ∧ (exchange 6 (.read 2)).oversize = false ∧ (exchange 6 (.read 2)).answers = .read 2
      ∧ 2 < [1#8, 2#8, 3#8].length := by decide +kernel
theorem witness_AReplyIsStoredOversizeOrStray_stray :
    reading.inBurstOf 1 (exchange 6 (.read 2)) ∧ (tilePacket 0x40 7 [1]).fits = true
      ∧ tileVerdict (tilePacket 0x40 7 [1]) = .reply 7 [1] ∧ (exchange 6 (.read 2)).tag ≠ 7 := by
  decide +kernel
theorem witness_AFaultWordIsStoredOnceOrStray_stored :
    reading.inBurstOf 1 (exchange 6 (.read 2)) ∧ (tilePacket 0x45 6 [0x12, 0x34]).fits = true
      ∧ tileVerdict (tilePacket 0x45 6 [0x12, 0x34]) = .fault 6 0x1234
      ∧ (exchange 6 (.read 2)).answers ≠ .watch ∧ (exchange 6 (.read 2)).tag = 6
      ∧ (exchange 6 (.read 2)).errorWord = none := by decide +kernel
theorem witness_AFaultWordIsStoredOnceOrStray_stray :
    let s := up.setPort 1 (lent .watching .inBurst watchExchange)
    s.inBurstOf 1 watchExchange ∧ (tilePacket 0x45 6 [0x12, 0x34]).fits = true
      ∧ tileVerdict (tilePacket 0x45 6 [0x12, 0x34]) = .fault 6 0x1234
      ∧ watchExchange.answers = .watch := by decide +kernel
theorem witness_StrayAnswersAreOnlyCounted_ack :
    let s := up.setPort 1 (lent .waiting .resting (exchange 6 .write))
    (s.port 1).receives = true ∧ (s.port 1).exchange = some (exchange 6 .write)
      ∧ (s.port 1).rx = .resting ∧ (exchange 6 .write).answers = .write
      ∧ (exchange 6 .write).ackSeen = false := by decide +kernel
/-- A second ACK, and a code that a tile may not send. -/
theorem witness_StrayAnswersAreOnlyCounted_resting :
    let e := { exchange 6 .write with ackSeen := true }
    let s := up.setPort 1 (lent .waiting .resting e)
    (s.port 1).receives = true ∧ (s.port 1).exchange = some e ∧ (s.port 1).rx = .resting
      ∧ e.ackSeen = true ∧ (0xC9 : Byte) ≠ 0xB4 ∧ (0xC9 : Byte) ≠ 0x2D ∧ (0xC9 : Byte) ≠ 0x63 := by
  decide +kernel
theorem witness_StrayAnswersAreOnlyCounted_in_burst :
    (reading.port 1).receives = true ∧ (reading.port 1).exchange = some (exchange 6 (.read 2))
      ∧ (reading.port 1).rx ≠ .resting ∧ (reading.port 1).rx = .inBurst
      ∧ (tilePacket 0x41 6 []).fits = true ∧ tileVerdict (tilePacket 0x41 6 []) = .stray := by
  decide +kernel
theorem witness_TileFramingMarksBadPackets_framing :
    let s := up.setPort 1 (lent .waiting .resting (exchange 6 .write))
    (s.port 1).receives = true ∧ cutFits (List.replicate 4107 0) = true ∧ (s.port 1).rx = .resting := by
  decide +kernel
theorem witness_TileFramingMarksBadPackets_bad :
    (reading.port 1).receives = true ∧ reading.inBurstOf 1 (exchange 6 (.read 2))
      ∧ cutFits [0x40] = true ∧ [0x40#8] ≠ []
      ∧ TilePacket.fits { header := List.replicate 10 1, payload := [], check := 0 } = true
      ∧ tileVerdict { header := List.replicate 10 1, payload := [], check := 0 } = .badHeader
      ∧ (tilePacket 0x40 6 []).fits = true ∧ tileVerdict (tilePacket 0x40 6 []) = .badPacket := by
  decide +kernel
theorem witness_TheTilesPassEndsTheExchange :
    let s := up.setPort 1 (lent .waiting .resting (exchange 6 .write))
    s.restingAt 1 (exchange 6 .write) ∧ (s.port 1).tx = .idle := by decide +kernel
theorem witness_AResolutionSettlesAndCompletes :
    let r := opened .write [part 0 .awaiting, part 1 .queued]
    (up.setRecord 4 (some r)).record 4 = some r ∧ r.state = .opened ∧ (exchange 4 .write).tag = 4
      ∧ ({ tag := 4, outcome := .flushed, isPartial := false } : Notice).tag = 4 := by decide +kernel
theorem witness_AFailureFlushesAndSeizes_timeout :
    let s := up.setPort 1 (lent .waiting .resting (exchange 6 .write))
    (s.port 1).phase = .waiting ∧ (s.port 1).answerTimer.isSome = true ∧ (s.port 1).holder = .tile := by
  decide +kernel
theorem witness_AFailureFlushesAndSeizes_collision :
    let s := up.setPort 1 (sending [piece 4 true 1 1 (some 4)])
    (s.port 1).holder = .hub ∧ (s.port 1).seize = none ∧ (s.port 1).isDown = false := by decide +kernel
theorem witness_AFailureFlushesAndSeizes_down :
    let s := up.setPort 1 { resting with phase := .down .failed }
    (s.port 1).holder = .hub ∧ (s.port 1).seize = none ∧ (s.port 1).isDown = true := by decide +kernel
/-- An exchange of tag 6, and a pending answer of tag 4, are the transaction that is notified first. -/
theorem witness_AFlushNotifiesEachTransactionOnce :
    let own (x : Port) : Option Tag := match x.exchange with
      | some e => if e.answers ≠ .watch ∧ e.orphan = false then some e.tag else none
      | none   => x.pendingAnswer.bind PendingAnswer.link
    some 6 = own (lent .waiting .resting (exchange 6 .write)) ∧ some 4 = own (passing (some 4))
      ∧ none = own (sending [piece 5 true 1 1 (some 5), piece 7 true 1 1 (some 7)]) := by decide +kernel
/-- A flush toward READY with two pieces of tag 5 and one of tag 7 waiting: tag 5 had begun. -/
theorem test_flush_notices_in_queue_order :
    ((sending [piece 5 false 2 3 (some 5), piece 5 true 3 3 (some 5),
        piece 7 true 1 1 (some 7)]).notices .failureToReady)
      = [{ tag := 5, outcome := .flushed, isPartial := true },
         { tag := 7, outcome := .flushed, isPartial := false }] := by decide +kernel
theorem witness_ClearingTowardReadyReturnsToService_seize :
    ((up.setPort 1 { resting with phase := .clearing .ready, holder := .tile, seize := some 0 }).port
      1).seize.isSome = true := by decide +kernel
theorem witness_ClearingTowardReadyReturnsToService_none :
    (State.reset.port 1).phase = .clearing .ready ∧ (State.reset.port 1).tx = .clear
      ∧ (State.reset.port 1).owed = .none := by decide +kernel
theorem witness_ClearingTowardReadyReturnsToService_restart :
    let s := (State.reset.setPort 1 { Port.reset with owed := .restart }).withAgent
      { queue := [], inExecution := some (command [10, 1]) }
    (s.port 1).phase = .clearing .ready ∧ (s.port 1).tx = .clear ∧ (s.port 1).owed = .restart
      ∧ s.agent.inExecution = some (command [10, 1]) := by decide +kernel

/-- A port that clears toward DOWN and owes this notice, with a command in execution. -/
def leaving (owed : Owed) : State :=
  (State.reset.setPort 1 { Port.reset with phase := .clearing (.down .stopped), owed := owed }).withAgent
    { queue := [], inExecution := some (command [9, 1]) }

theorem witness_AClearSentTowardDownLeavesService :
    ((leaving .none).port 1).phase = .clearing (.down .stopped) ∧ ((leaving .none).port 1).tx = .clear
      ∧ ((leaving .none).port 1).owed = .none
      ∧ ((leaving .stop).port 1).phase = .clearing (.down .stopped)
      ∧ ((leaving .stop).port 1).tx = .clear ∧ ((leaving .stop).port 1).owed = .stop
      ∧ (leaving .stop).agent.inExecution = some (command [9, 1])
      ∧ ((leaving .restart).port 1).phase = .clearing (.down .stopped)
      ∧ ((leaving .restart).port 1).tx = .clear ∧ ((leaving .restart).port 1).owed = .restart
      ∧ (leaving .restart).agent.inExecution = some (command [9, 1]) := by decide +kernel

/-! Deadlines and sync groups. -/

theorem witness_ADeadlineExpiresTheOpenParts :
    let r := opened .write [part 0 .queued, part 1 .awaiting, part 2 (.resolved .ack)]
    (up.setRecord 4 (some r)).record 4 = some r ∧ r.state = .opened ∧ r.deadline.isSome = true
      ∧ (r.parts.map PortRecord.port).Nodup := by decide +kernel

/-- Group 0 has ports 0, 1 and 2, is armed, and ports 0 and 1 have reported. -/
def paced : State := onGroup up 0 fun x => { x with
  members := 7, mode := .repeating, window := 2000, reported := 3, timer := some 1 }

/-- The same, with port `p` watching. -/
def pacedAt (p : PortId) : State := paced.setPort p (lent .watching .resting watchExchange)

theorem witness_ASyncTokenJoinsTheRound_unwatched :
    ((pacedAt 3).port 3).receives = true ∧ ((pacedAt 3).port 3).rx = .resting
      ∧ ∀ g, PortSet.has ((pacedAt 3).group g).members 3 = true → ((pacedAt 3).group g).mode = .off := by
  decide +kernel
theorem witness_ASyncTokenJoinsTheRound_early :
    ((pacedAt 1).port 1).receives = true ∧ ((pacedAt 1).port 1).rx = .resting
      ∧ (pacedAt 1).memberOf 1 0 ∧ ((pacedAt 1).group 0).mode ≠ .off
      ∧ PortSet.has ((pacedAt 1).group 0).reported 1 = true := by decide +kernel
theorem witness_ASyncTokenJoinsTheRound_last :
    ((pacedAt 2).port 2).receives = true ∧ ((pacedAt 2).port 2).rx = .resting
      ∧ (pacedAt 2).memberOf 2 0 ∧ ((pacedAt 2).group 0).mode ≠ .off
      ∧ PortSet.has ((pacedAt 2).group 0).reported 2 = false ∧ (pacedAt 2).allPresentIn 0 7 := by
  decide +kernel
theorem witness_ASyncTokenJoinsTheRound_first :
    let s := onGroup (pacedAt 2) 0 fun x => { x with reported := 0, timer := none }
    (s.port 2).receives = true ∧ (s.port 2).rx = .resting ∧ s.memberOf 2 0 ∧ (s.group 0).mode ≠ .off
      ∧ PortSet.has (s.group 0).reported 2 = false ∧ ¬ s.allPresentIn 0 4 := by decide +kernel
theorem witness_RoundsEndBySplitOrLossOfAMember_split : (paced.group 0).timer.isSome = true := by
  decide +kernel
theorem witness_RoundsEndBySplitOrLossOfAMember_no_group :
    ∀ g, PortSet.has (paced.group g).members 3 = true → (paced.group g).mode = .off := by decide +kernel
theorem witness_RoundsEndBySplitOrLossOfAMember_off :
    let s := paced.withPorts (Vector.replicate 4 { resting with phase := .down .failed })
    s.memberOf 2 0 ∧ (s.group 0).mode ≠ .off
      ∧ ∀ q, PortSet.has (s.group 0).members q = true → (s.port q).isDown = true := by decide +kernel
theorem witness_RoundsEndBySplitOrLossOfAMember_completes :
    let s := paced.setPort 2 { resting with phase := .down .failed }
    s.memberOf 2 0 ∧ (s.group 0).mode ≠ .off ∧ s.allPresentIn 0 (s.group 0).reported := by decide +kernel
theorem witness_RoundsEndBySplitOrLossOfAMember_goes_on :
    let s := paced.setPort 1 { resting with phase := .down .failed }
    s.memberOf 1 0 ∧ (s.group 0).mode ≠ .off ∧ PortSet.has (s.group 0).members 2 = true
      ∧ (s.port 2).isDown = false ∧ PortSet.has (s.group 0).reported 2 = false := by decide +kernel

/-! The management rows: the agent offers a command with each payload that a clause asks for. -/

theorem witness_WrongCodesAndLengthsAreAnsweredOnly :
    (offered [0x12] up).offers (command [0x12]) rest ∧ (command [0x12]).payload = 0x12 :: []
      ∧ 0x12 ≤ (0x12 : Byte).toNat
      ∧ (offered [1] up).offers (command [1]) rest ∧ (command [1]).payload = 0x01 :: []
      ∧ (offered [8, 2] up).offers (command [8, 2]) rest ∧ (command [8, 2]).payload = 0x08 :: [2]
      ∧ [2#8].length ≠ 4 := by decide +kernel

/-- A commit is pending on the wall. -/
def pendingWall : State := wall.withTable { wall.table with commit := .pendingFrame }

theorem witness_StageEntryReplacesOneStagedEntry_bad_arguments :
    (offered [2] wall).offers (command [2]) rest ∧ (offered [2, 31, 0] wall).offers (command [2, 31, 0]) rest
      ∧ (command [2, 31, 0]).payload = 0x02 :: 31 :: [0] ∧ 31 ≤ (31 : Byte).toNat
      ∧ entryLengthOk [0, 0] = false := by decide +kernel
theorem witness_StageEntryReplacesOneStagedEntry_busy :
    (offered [2, 30, 0] pendingWall).offers (command [2, 30, 0]) rest
      ∧ (command [2, 30, 0]).payload = 0x02 :: 30 :: [0] ∧ (30 : Byte).toNat ≤ 30
      ∧ entryLengthOk [0] = true ∧ (offered [2, 30, 0] pendingWall).table.commit = .pendingFrame := by
  decide +kernel
theorem witness_StageEntryReplacesOneStagedEntry_judged :
    (offered [2, 30, 0] wall).offers (command [2, 30, 0]) rest ∧ wall.table.commit = .none
      ∧ entryLengthOk [1, 0, 1, 0] = true ∧ judgeEntry [1, 0, 1, 0] = none
      ∧ entryLengthOk [0] = true ∧ judgeEntry [0] = some .off := by decide +kernel
theorem witness_StageOffTurnsOneStagedEntryOff :
    (offered [3, 31] wall).offers (command [3, 31]) rest ∧ 31 ≤ (31 : Byte).toNat
      ∧ (offered [3, 30] pendingWall).offers (command [3, 30]) rest ∧ (30 : Byte).toNat ≤ 30
      ∧ pendingWall.table.commit = .pendingFrame
      ∧ (offered [3, 30] wall).offers (command [3, 30]) rest ∧ wall.table.commit = .none
      ∧ wall.table.staged[(30 : Byte).toNat]? = some .off := by decide +kernel
theorem witness_StageCopyCopiesTheActiveBank :
    (offered [4] wall).offers (command [4]) rest ∧ wall.table.commit = .none
      ∧ (offered [4] pendingWall).offers (command [4]) rest
      ∧ pendingWall.table.commit = .pendingFrame
      ∧ { wall.table with staged := wall.table.active } = { wall.table with active := wall.table.staged } := by
  decide +kernel
theorem witness_CommitsAreTakenMadePendingOrCancelled :
    (offered [6, 0] wall).offers (command [6, 0]) rest
      ∧ (offered [6, 1] wall).offers (command [6, 1]) rest
      ∧ (offered [7] wall).offers (command [7]) rest
      ∧ (offered [6] wall).offers (command [6]) rest ∧ ([] : List Byte) ≠ [0]
      ∧ ([] : List Byte).head? ≠ some 1
      ∧ (offered [6, 1, 0] wall).offers (command [6, 1, 0]) rest ∧ [0#8] ≠ [] := by decide +kernel
/-- Each reading command at the last number of its range. -/
theorem witness_ReadsChangeNothing :
    (offered [5, 30, 1] wall).offers (command [5, 30, 1]) rest
      ∧ (offered [0x0B, 3] wall).offers (command [0x0B, 3]) rest
      ∧ (offered [0x0D, 3] wall).offers (command [0x0D, 3]) rest
      ∧ (offered [0x0F, 15] wall).offers (command [0x0F, 15]) rest
      ∧ (offered [0x10, 2, 30] wall).offers (command [0x10, 2, 30]) rest := by decide +kernel
/-- The ends of both ranges, and one value past each. -/
theorem witness_PortSetChangesTwoSettings :
    (offered [8, 3, 0xC3, 0x50, 7] up).offers (command [8, 3, 0xC3, 0x50, 7]) rest
      ∧ (3 : Byte).toNat = (3 : PortId).val
      ∧ (0xC3 : Byte).toNat * 256 + (0x50 : Byte).toNat = 50000 ∧ (7 : Byte).toNat = 7
      ∧ (offered [8, 3, 0, 10, 1] up).offers (command [8, 3, 0, 10, 1]) rest
      ∧ (offered [8, 4, 0, 10, 1] up).offers (command [8, 4, 0, 10, 1]) rest ∧ 4 ≤ (4 : Byte).toNat
      ∧ (0 : Byte).toNat * 256 + (9 : Byte).toNat < 10
      ∧ 50000 < (0xC3 : Byte).toNat * 256 + (0x51 : Byte).toNat ∧ (0 : Byte).toNat = 0
      ∧ 7 < (8 : Byte).toNat := by decide +kernel

/-- The agent may take a PORT-STOP or PORT-RESTART of port 1, which is in this state. -/
def servicing (code : Byte) (x : Port) : State := offered [code, 1] (up.setPort 1 x)

theorem witness_PortStopTakesThePortOutOfService_down_or_clearing :
    let down := servicing 9 { resting with phase := .down .failed }
    let toDown := servicing 9 { resting with phase := .clearing (.down .failed) }
    let toReady := servicing 9 { resting with phase := .clearing .ready }
    down.offers (command [9, 1]) rest ∧ (down.port 1).phase = .down .failed
      ∧ toDown.offers (command [9, 1]) rest ∧ (toDown.port 1).phase = .clearing (.down .failed)
      ∧ toReady.offers (command [9, 1]) rest ∧ (toReady.port 1).phase = .clearing .ready
      ∧ (1 : Byte).toNat = (1 : PortId).val := by decide +kernel
theorem witness_PortStopTakesThePortOutOfService_in_service :
    (servicing 9 resting).offers (command [9, 1]) rest
      ∧ (∀ d, ((servicing 9 resting).port 1).phase ≠ .clearing d)
      ∧ ∀ cause, ((servicing 9 resting).port 1).phase ≠ .down cause := by
  have h : ((servicing 9 resting).port 1).phase = .ready := by decide +kernel
  refine ⟨by decide +kernel, ?_, ?_⟩
  · intro d hd; rw [h] at hd; cases hd
  · intro c hc; rw [h] at hc; cases hc
theorem witness_PortRestartClearsTowardReady_down_or_clearing :
    let down := servicing 10 { resting with phase := .down .failed }
    let toDown := servicing 10 { resting with phase := .clearing (.down .failed) }
    let toReady := servicing 10 { resting with phase := .clearing .ready }
    down.offers (command [10, 1]) rest ∧ (down.port 1).phase = .down .failed
      ∧ toDown.offers (command [10, 1]) rest ∧ (toDown.port 1).phase = .clearing (.down .failed)
      ∧ toReady.offers (command [10, 1]) rest ∧ (toReady.port 1).phase = .clearing .ready
      ∧ (1 : Byte).toNat = (1 : PortId).val := by decide +kernel
theorem witness_PortRestartClearsTowardReady_in_service :
    (servicing 10 resting).offers (command [10, 1]) rest
      ∧ (∀ d, ((servicing 10 resting).port 1).phase ≠ .clearing d)
      ∧ ∀ cause, ((servicing 10 resting).port 1).phase ≠ .down cause := by
  have h : ((servicing 10 resting).port 1).phase = .ready := by decide +kernel
  refine ⟨by decide +kernel, ?_, ?_⟩
  · intro d hd; rw [h] at hd; cases hd
  · intro c hc; rw [h] at hc; cases hc
/-- Group 1 may take port 3 and a window of 65,535; port 0 belongs to group 0 already. -/
theorem witness_SyncSetGivesAGroupItsSettings_taken :
    (offered [12, 1, 8, 2, 0xFF, 0xFF] paced).offers (command [12, 1, 8, 2, 0xFF, 0xFF]) rest
      ∧ (1 : Byte).toNat = (1 : GroupId).val ∧ (8 : Byte).toNat = (8 : PortSet).toNat
      ∧ 1 ≤ (0xFF : Byte).toNat * 256 + (0xFF : Byte).toNat
      ∧ (∀ g p, ¬ (g ≠ (1 : GroupId) ∧ PortSet.has (paced.group g).members p = true
          ∧ PortSet.has 8 p = true)) ∧ (8 : PortSet) ≠ 0 := by decide +kernel
theorem witness_SyncSetGivesAGroupItsSettings_bad :
    (offered [12, 1, 1, 2, 0, 1] paced).offers (command [12, 1, 1, 2, 0, 1]) rest
      ∧ (0 : GroupId) ≠ 1 ∧ PortSet.has (paced.group 0).members 0 = true
      ∧ PortSet.has 1 0 = true
      ∧ (offered [12, 4, 16, 3, 0, 0] paced).offers (command [12, 4, 16, 3, 0, 0]) rest
      ∧ 4 ≤ (4 : Byte).toNat ∧ 16 ≤ (16 : Byte).toNat ∧ 3 ≤ (3 : Byte).toNat := by decide +kernel
/-- The first number that is no port. -/
theorem witness_PortStopAndPortRestart_no_port :
    (offered [9, 4] up).offers (command [9, 4]) rest
      ∧ (offered [10, 4] up).offers (command [10, 4]) rest ∧ 4 ≤ (4 : Byte).toNat := by decide +kernel
theorem witness_ReturnSetTakesAllThreeValuesOrNone :
    (offered [14, 32, 15, 3, 0xE8] up).offers (command [14, 32, 15, 3, 0xE8]) rest
      ∧ (32 : Byte).toNat ≤ 32 ∧ (15 : Byte).toNat < 16
      ∧ (3 : Byte).toNat * 256 + (0xE8 : Byte).toNat = 1000
      ∧ (offered [14, 33, 15, 3, 0xE8] up).offers (command [14, 33, 15, 3, 0xE8]) rest
      ∧ ¬ (33 : Byte).toNat ≤ 32 := by decide +kernel
theorem witness_CountersClearZeroesOneBlock :
    (offered [17, 4, 4] up).offers (command [17, 4, 4]) rest ∧ counterBlockArgs [4, 4] = none
      ∧ (offered [17, 4, 3] up).offers (command [17, 4, 3]) rest
      ∧ counterBlockArgs [4, 3] = some (.port 3) := by decide +kernel

/-! Layouts and invariants. -/

/-- The largest value of each field, another check byte, and a spare bit. -/
theorem witness_HeadersAreReadAsTheyAreComposed :
    31 < 32 ∧ 4095 < 4096 ∧ 8191 < 8192 ∧ 134217727 < 2 ^ 27
      ∧ (0 : Byte) ≠ crc8 ((composeHeader 0x11 31 true 15 4095 8191 4096).take 9)
      ∧ 1 ≤ (3 : Byte).toNat ∧ (3 : Byte).toNat < 4 := by decide +kernel
theorem witness_EntriesAreReadAsTheyAreEncoded :
    (StreamEntry.on 15 0 wallFields).valid = true ∧ (StreamEntry.on 8 30 (wallCommand 256)).valid = true
      ∧ StreamEntry.off.valid = true := by decide +kernel
/-- The invariants hold together after reset, and a step from there leads on. -/
theorem witness_invariants :
    State.reset.portsSound ∧ State.reset.queuesFit ∧ State.reset.noPortDawdles
      ∧ State.reset.tableSound ∧ State.reset.groupsSound ∧ State.reset.slotsSound
      ∧ State.reset.upstreamSound ∧ State.reset.recordsSound ∧ State.reset.linksSound
      ∧ State.reset.noticesOwed ∧ State.reset.ret.attention = State.reset.ret.callsHost := by decide +kernel
/-- A PORT-STOP of port 1 is held, and a PORT-RESTART: the port owes the notice. -/
theorem witness_SlotsAndTurnsStaySound_owed :
    let stopped := after .portStop (asked [9, 1] up)
    let restarted := after .portRestart (asked [10, 1] up)
    stopped.noticesOwed ∧ (stopped.port 1).owed = .stop
      ∧ restarted.noticesOwed ∧ (restarted.port 1).owed = .restart := by decide +kernel
theorem witness_AttentionFollowsTheReturnQueue_asserted :
    let q := State.reset.ret.push (eventEntry [4, 0])
    q.attention = true ∧ (∃ e ∈ q.entries, e.kind = .event) ∧ q.mask.event = true := by decide +kernel
theorem witness_a_step_from_reset : step State.reset = .next State.reset.tick := rfl
/-- A CLEAR that has been sent. -/
theorem witness_ARowOfOnePortLeavesTheOthersAlone :
    (0 : PortId) ≠ 1 ∧ exec (.clearSent 0) State.reset = .next (State.reset.clearingDone 0)
      ∧ (up.setRecord 4 (some (opened .write [part 1 .queued]))).record 4
          = some (opened .write [part 1 .queued]) :=
  ⟨by decide, rfl, by decide +kernel⟩
/-- A REPLY, a burst open that cuts a packet, and a wrong token of a tile. -/
theorem witness_ARowOfOnePortLeavesTheOthersAlone_tile_rows :
    let s := up.setPort 0 (lent .waiting .inBurst (exchange 6 (.read 2)))
    exec (.replyArrival 0 (tilePacket 0x40 6 [1])) s
        = .next (after (.replyArrival 0 (tilePacket 0x40 6 [1])) s)
      ∧ exec (.tileBurstOpen 0 [1]) s = .next (after (.tileBurstOpen 0 [1]) s)
      ∧ exec (.tileTokenError 0 0xC9) s = .next (after (.tileTokenError 0 0xC9) s) :=
  ⟨rfl, rfl, rfl⟩

end Sys2Proof.Tests
end

/-! SUPPORT and THEOREMS. The framing of the host's bursts (R4, R15, R19, R20). -/

namespace Sys2Proof.Machine

/-! ### The rows of the upstream framing -/

theorem exec_upstreamBurstOpen (cut : List Byte) (s : State) :
    exec (.upstreamBurstOpen cut) s = .next (s.openHostBurst cut) := rfl

theorem exec_upstreamBurstClose (cut : List Byte) (s : State) :
    exec (.upstreamBurstClose cut) s = .next (s.closeHostBurst cut) := rfl

theorem exec_strayDataSymbol (b : Byte) (s : State) :
    exec (.strayDataSymbol b) s = .next s.strayHostData := rfl

/-! ### What a burst boundary does to the packet in progress -/

/-- R4: only a receiver IN-BURST has a packet that a burst boundary can truncate. -/
def State.endPacket (s : State) (cut : List Byte) : State :=
  if s.upstream.rx = .inBurst then s.truncatePacket cut else s

/-- The upstream port behind a burst boundary: nothing is in progress, and a truncated packet has been
counted. -/
def Upstream.atBoundary (x : Upstream) (rx : RxState) (isTruncated : Bool) : Upstream :=
  { x with
    rx := rx, inProgress := none
    counts := if isTruncated then { x.counts with truncatedPackets := bump x.counts.truncatedPackets }
      else x.counts }

/-- A second write of the receive state overwrites what the first write left of it. -/
theorem State.setRx_withUpstream (s : State) (x : Upstream) (rx : RxState) :
    (s.withUpstream x).setRx rx = s.withUpstream { x with rx := rx, inProgress := none } := rfl

theorem State.setRx_self {s : State} {rx : RxState} (hr : s.upstream.rx = rx)
    (hi : s.upstream.inProgress = none) : s.setRx rx = s := by
  subst hr
  simp only [State.setRx, ← hi]
  rfl

theorem State.endPacket_of_not_inBurst {s : State} (hr : s.upstream.rx ≠ .inBurst) (cut : List Byte) :
    s.endPacket cut = s := if_neg hr

/-- R4: without a good header, it is the cut data symbols in a burst that make a truncated packet. -/
theorem State.endPacket_of_none {s : State} (hi : s.upstream.inProgress = none) (cut : List Byte) :
    s.endPacket cut = if s.upstream.rx == .inBurst && !cut.isEmpty then s.countTruncated else s := by
  by_cases hr : s.upstream.rx = .inBurst
  · cases hc : cut.isEmpty <;> simp [State.endPacket, State.truncatePacket, hi, hr, hc]
  · simp [State.endPacket, hr]

/-- R4: a packet whose good header had arrived is truncated and noticed, whatever else was cut. -/
theorem State.endPacket_of_some {s : State} {h : Header} (hr : s.upstream.rx = .inBurst)
    (hi : s.upstream.inProgress = some h) (cut : List Byte) :
    s.endPacket cut = s.countTruncated.failedPayload h := by
  simp only [State.endPacket, State.truncatePacket, hr, hi, if_true]

theorem State.setRx_endPacket_of_none {s : State} (hi : s.upstream.inProgress = none)
    (cut : List Byte) (rx : RxState) :
    (s.endPacket cut).setRx rx
      = s.withUpstream (s.upstream.atBoundary rx (s.upstream.rx == .inBurst && !cut.isEmpty)) := by
  rw [State.endPacket_of_none hi]
  cases s.upstream.rx == .inBurst && !cut.isEmpty <;> rfl

theorem State.setRx_endPacket_of_some {s : State} {h : Header} (hr : s.upstream.rx = .inBurst)
    (hi : s.upstream.inProgress = some h) (cut : List Byte) (rx : RxState) :
    (s.endPacket cut).setRx rx
      = (s.failedPayload h).withUpstream (s.upstream.atBoundary rx true) := by
  rw [State.endPacket_of_some hr hi, State.countTruncated, State.countUpstream,
    State.failedPayload_withUpstream, State.setRx_withUpstream]
  rfl

/-! ### Burst open, burst close and stray data -/

/-- R15: a burst open ends the packet in progress and starts a burst, in every receive state. -/
theorem State.openHostBurst_eq {s : State} (hd : s.upstream.direction = .follower) (cut : List Byte) :
    s.openHostBurst cut = (s.endPacket cut).setRx .inBurst := by
  cases hr : s.upstream.rx <;> simp [State.openHostBurst, State.endPacket, hd, hr]

/-- R19: a burst close ends the packet in progress and lets the receiver rest, in every receive state. -/
theorem State.closeHostBurst_eq {s : State} (hd : s.upstream.direction = .follower)
    (hi : s.upstream.rx = .resting → s.upstream.inProgress = none) (cut : List Byte) :
    s.closeHostBurst cut = (s.endPacket cut).setRx .resting := by
  cases hr : s.upstream.rx with
  | resting => simp [State.closeHostBurst, State.endPacket, hd, hr, State.setRx_self hr (hi hr)]
  | inBurst => simp [State.closeHostBurst, State.endPacket, hd, hr]
  | desync => simp [State.closeHostBurst, State.endPacket, hd, hr]

theorem State.strayHostData_of_resting {s : State} (hd : s.upstream.direction = .follower)
    (hr : s.upstream.rx = .resting) :
    s.strayHostData
      = (s.countUpstream fun c => { c with desyncBursts := bump c.desyncBursts }).setRx .desync := by
  simp only [State.strayHostData, hd, hr]

theorem State.strayHostData_of_not_resting {s : State} (hr : s.upstream.rx ≠ .resting) :
    s.strayHostData = s := by
  unfold State.strayHostData
  split
  next _ hrest => exact absurd hrest hr
  next => rfl

/-! ### The statements -/

/-- Settles O5: open and close are the same boundary up to the receive state, and the notice to ingress
commutes with the writes of the upstream port. -/
theorem burstOpenAndCloseFrameTheHostsPackets : Obligations.BurstOpenAndCloseFrameTheHostsPackets := by
  intro s cut _ hd
  refine ⟨fun hi => ⟨?_, ?_⟩, fun h hr hi => ⟨?_, ?_⟩⟩
  · rw [exec_upstreamBurstOpen, State.openHostBurst_eq hd, State.setRx_endPacket_of_none hi]
    rfl
  · rw [exec_upstreamBurstClose, State.closeHostBurst_eq hd fun _ => hi,
      State.setRx_endPacket_of_none hi]
    rfl
  · rw [exec_upstreamBurstOpen, State.openHostBurst_eq hd, State.setRx_endPacket_of_some hr hi]
    rfl
  · have hrest : s.upstream.rx = .resting → s.upstream.inProgress = none := by simp [hr]
    rw [exec_upstreamBurstClose, State.closeHostBurst_eq hd hrest,
      State.setRx_endPacket_of_some hr hi]
    rfl

/-- Settles O6: only RESTING takes a stray data symbol, and a boundary in DESYNC has no packet to end. -/
theorem aDataSymbolOutsideABurstDesynchronises :
    Obligations.ADataSymbolOutsideABurstDesynchronises := by
  intro s b cut hd
  refine ⟨fun hr => ?_, fun hr => ?_, fun hr _ => ?_⟩
  · rw [exec_strayDataSymbol, State.strayHostData_of_resting hd hr]
    rfl
  · rw [exec_strayDataSymbol, State.strayHostData_of_not_resting (by simp [hr])]
  · have hnone : s.endPacket cut = s := State.endPacket_of_not_inBurst (by simp [hr]) cut
    constructor
    · rw [exec_upstreamBurstOpen, State.openHostBurst_eq hd, hnone]
      rfl
    · rw [exec_upstreamBurstClose, State.closeHostBurst_eq hd (by simp [hr]), hnone]
      rfl

end Sys2Proof.Machine

/-! SUPPORT and THEOREMS. The commands that edit the staged bank (R31, R32). -/

namespace Sys2Proof.Machine

/-! ### Edits of the stream table -/

/-- R30: a stream id 0..30 is in bounds, so a staged entry is replaced as a write by number replaces it. -/
theorem StreamTable.stage_eq (x : StreamTable) (id : Fin 31) (e : StreamEntry) :
    x.stage id e = { x with staged := x.staged.setIfInBounds id.val e } := by
  have hset : x.staged.set id.val e id.isLt = x.staged.setIfInBounds id.val e := by
    ext i hi
    rw [Vector.getElem_set, Vector.getElem_setIfInBounds]
  exact congrArg (fun b => { x with staged := b }) hset

/-- Staging the entry that stands there already changes nothing. -/
theorem StreamTable.stage_self {x : StreamTable} {id : Fin 31} {e : StreamEntry}
    (h : x.staged[id.val]? = some e) : x.stage id e = x := by
  obtain ⟨_, rfl⟩ := Vector.getElem?_eq_some_iff.1 h
  exact congrArg (fun b => { x with staged := b }) (Vector.set_getElem_self id.isLt)

/-! ### Taking a command that edits the table -/

/-- R163: the row that the agent's next command names carries that command out. -/
theorem State.execute_of_named {s : State} {c : MgmtCommand} {rest : List MgmtCommand}
    (h : s.offers c rest) {name : CommandName} (hn : commandName c.payload = name)
    (run : MgmtCommand → State → State) :
    s.execute name run = run c (s.withAgent { queue := rest, inExecution := none }) := by
  rw [State.execute_of_offers h, if_pos hn]

/-- R43: taking a command that edits the table, in one: BUSY while a commit is pending, else the edit
and DONE. -/
theorem unlessPending_of_taken (s : State) (c : MgmtCommand) (rest : List MgmtCommand)
    (x : StreamTable) :
    let u := s.withAgent { queue := rest, inExecution := none }
    unlessPending c u ((u.withTable x).reply c .done [])
      = if s.table.commit = .pendingFrame then s.taken c rest 2 []
        else (s.withTable x).taken c rest 0 [] := unlessPending_eq _ _ _

/-! ### STAGE-OFF (R31) -/

section
variable {s : State} {c : MgmtCommand} {rest : List MgmtCommand} {id : Byte}

theorem exec_stageOff (h : s.offers c rest) (hc : c.payload = [0x03, id]) :
    exec .stageOff s
      = .next (runStageOff c (s.withAgent { queue := rest, inExecution := none })) := by
  have hn : commandName c.payload = .stageOff := by rw [hc]; rfl
  exact congrArg _ (State.execute_of_named h hn runStageOff)

theorem oneStream_arguments (hc : c.payload = [0x03, id]) :
    oneStream c.arguments = streamArg id := by
  rw [MgmtCommand.arguments, hc]; rfl

theorem exec_stageOff_of_le (h : s.offers c rest) (hc : c.payload = [0x03, id])
    (hid : 31 ≤ id.toNat) : exec .stageOff s = .next (s.taken c rest 3 []) := by
  rw [exec_stageOff h hc, runStageOff, oneStream_arguments hc, streamArg_of_le hid]
  rfl

theorem exec_stageOff_of_lt (h : s.offers c rest) (hc : c.payload = [0x03, id])
    (hid : id.toNat < 31) : exec .stageOff s = .next
      (if s.table.commit = .pendingFrame then s.taken c rest 2 []
       else (s.withTable (s.table.stage ⟨id.toNat, hid⟩ .off)).taken c rest 0 []) := by
  rw [exec_stageOff h hc, runStageOff, oneStream_arguments hc, streamArg_of_lt hid]
  exact congrArg _ (unlessPending_of_taken s c rest _)

end

/-- Settles O39: an id in range is a bounded write of the staged bank, one of no effect on an entry that
is OFF. -/
theorem stageOffTurnsOneStagedEntryOff : Obligations.StageOffTurnsOneStagedEntryOff := by
  intro s c rest id h hc
  refine ⟨exec_stageOff_of_le h hc, fun hid hp => ?busy, fun hid hn => ?off, fun hid hn hoff => ?stays⟩
  all_goals rw [exec_stageOff_of_lt h hc (Nat.lt_succ_of_le hid)]
  case busy => rw [if_pos hp]
  case off =>
    rw [if_neg (by simp [hn]), StreamTable.stage_eq]
    rfl
  case stays =>
    rw [if_neg (by simp [hn]), StreamTable.stage_self hoff]
    rfl

/-! ### STAGE-COPY (R32) -/

theorem exec_stageCopy {s : State} {c : MgmtCommand} {rest : List MgmtCommand}
    (h : s.offers c rest) (hc : c.payload = [0x04]) : exec .stageCopy s = .next
      (if s.table.commit = .pendingFrame then s.taken c rest 2 []
       else (s.withTable { s.table with staged := s.table.active }).taken c rest 0 []) := by
  have hn : commandName c.payload = .stageCopy := by rw [hc]; rfl
  have hargs : noArgs c.arguments = some () := by rw [MgmtCommand.arguments, hc]; rfl
  have hrun : runStageCopy c (s.withAgent { queue := rest, inExecution := none })
      = if s.table.commit = .pendingFrame then s.taken c rest 2 []
        else (s.withTable { s.table with staged := s.table.active }).taken c rest 0 [] := by
    rw [runStageCopy, hargs]
    exact unlessPending_of_taken s c rest _
  exact congrArg _ ((State.execute_of_named h hn runStageCopy).trans hrun)

/-- Settles O40: the copy is an edit of the staged bank; two copies in opposite directions that agree leave
the same active bank, which the second took from the staged one. -/
theorem stageCopyCopiesTheActiveBank : Obligations.StageCopyCopiesTheActiveBank := by
  intro s c rest h hc
  refine ⟨fun hp => ?busy, fun hn => ?copied, fun hsame => congrArg StreamTable.active hsame⟩
  case busy => rw [exec_stageCopy h hc, if_pos hp]
  case copied =>
    rw [exec_stageCopy h hc, if_neg (by simp [hn])]
    rfl

end Sys2Proof.Machine

/-! SUPPORT and THEOREMS. The kind errors of ingress (R50). -/

namespace Sys2Proof.Machine

/-! ### The kinds that the host may send (R49 step 1) -/

/-- The code of a stream kind is not the code of a MGMT. -/
theorem hostKind_stream_ne_mgmt {b : Byte} {kind : StreamKind}
    (hk : hostKind b = some (.stream kind)) : b ≠ 0x30 := by
  obtain ⟨rfl, -⟩ | ⟨rfl, -⟩ | ⟨rfl, -⟩ | ⟨rfl, -⟩ := hostKind_stream hk <;> decide

/-- A byte that names a kind of the host is one of the five codes of R49. -/
theorem mem_codes_of_hostKind {b : Byte} {kind : HostKind} (hk : hostKind b = some kind) :
    b ∈ [0x10#8, 0x11#8, 0x20#8, 0x21#8, 0x30#8] := by
  cases kind with
  | mgmt => simp [hostKind_mgmt hk]
  | stream kind =>
    obtain ⟨rfl, -⟩ | ⟨rfl, -⟩ | ⟨rfl, -⟩ | ⟨rfl, -⟩ := hostKind_stream hk <;> simp

/-! ### Classification by kind and stream -/

section
variable {h : Header} (s : State) (payload : List Byte)

theorem State.classify_of_not_hostKind (hk : hostKind h.kind = none) :
    s.classify h payload = s.kindError := by
  simp only [State.classify, hk]

theorem State.classify_of_mgmt (hk : hostKind h.kind = some .mgmt) :
    s.classify h payload = if h.stream = 31 then s.takeMgmt h payload else s.kindError := by
  simp only [State.classify, hk]

theorem State.classify_of_stream {kind : StreamKind} (hk : hostKind h.kind = some (.stream kind)) :
    s.classify h payload
      = if h.stream = 31 then s.kindError else s.classifyStream kind h payload := by
  simp only [State.classify, hk]

end

/-! ### The statement -/

/-- Settles O11: what the byte names for the host decides which of the three ways to a kind error is left,
and each ends in the same count. -/
theorem kindErrorsAreCountedAndDiscarded : Obligations.KindErrorsAreCountedAndDiscarded := by
  intro s h payload hbad
  change s.classify h payload = s.kindError
  cases hk : hostKind h.kind with
  | none => exact s.classify_of_not_hostKind payload hk
  | some kind =>
    have hcode := mem_codes_of_hostKind hk
    cases kind with
    | mgmt =>
      have hoff : h.stream ≠ 31 := by
        obtain hnot | ⟨-, hoff⟩ | ⟨hne, -⟩ := hbad
        · exact absurd hcode hnot
        · exact hoff
        · exact absurd (hostKind_mgmt hk) hne
      rw [s.classify_of_mgmt payload hk, if_neg hoff]
    | stream kind =>
      have hon : h.stream = 31 := by
        obtain hnot | ⟨heq, -⟩ | ⟨-, hon⟩ := hbad
        · exact absurd hcode hnot
        · exact absurd heq (hostKind_stream_ne_mgmt hk)
        · exact hon
      rw [s.classify_of_stream payload hk, if_pos hon]

end Sys2Proof.Machine

/-! SUPPORT and THEOREMS. A FAULT from a tile (R24, R92). -/

namespace Sys2Proof.Machine

/-! ### A packet inside a tile burst -/

theorem exec_faultArrival (p : PortId) (packet : TilePacket) (s : State) :
    exec (.faultArrival p packet) s = .next (s.onTilePacket p packet Port.takeFaultVerdict) := rfl

/-- R24: a packet that fits, in a burst during an exchange, changes the port by its judgement. -/
theorem State.onTilePacket_of_inBurstOf {s : State} {p : PortId} {e : Exchange} {packet : TilePacket}
    (h : s.inBurstOf p e) (hfits : packet.fits = true) (f : TileVerdict → Port → Port) :
    s.onTilePacket p packet f = s.setPort p (f (tileVerdict packet) (s.port p)) := by
  obtain ⟨hreceives, hburst, -⟩ := h
  simp only [s.onTilePacket_of_fits p f hfits, State.inTileBurst, hreceives, hburst, BEq.rfl,
    Bool.and_self, if_true]

/-! ### What the open exchange takes -/

theorem Port.exchangeTakes_of_exchange {x : Port} {e : Exchange} (h : x.exchange = some e)
    (fits : Exchange → Bool) (f : Exchange → Exchange) :
    x.exchangeTakes fits f
      = if fits e then { x with exchange := some (f e) } else x.takeStray := by
  simp only [Port.exchangeTakes, h, Port.takeStray]

/-- R92: a word is stored once, in an exchange of the same tag that is no watch. -/
theorem Exchange.matchesFault_iff (e : Exchange) (tag : Tag) :
    e.matchesFault tag = true ↔ e.answers ≠ .watch ∧ e.tag = tag ∧ e.errorWord = none := by
  cases h : e.answers <;> simp [Exchange.matchesFault, h]

/-- R92: the word of a FAULT is stored in the open exchange that it matches, and is stray otherwise. -/
theorem Port.takeFault_of_exchange {x : Port} {e : Exchange} (h : x.exchange = some e) (tag : Tag)
    (word : Half) :
    x.takeFault tag word
      = if e.matchesFault tag then { x with exchange := some { e with errorWord := some word } }
        else x.takeStray :=
  Port.exchangeTakes_of_exchange h _ _

/-! ### The statement -/

/-- R92: a FAULT_ARRIVAL during an exchange hands its word to the port, and touches nothing else. -/
theorem exec_faultArrival_of_inBurstOf {s : State} {p : PortId} {packet : TilePacket} {e : Exchange}
    {tag : Tag} {word : Half} (h : s.inBurstOf p e) (hfits : packet.fits = true)
    (hv : tileVerdict packet = .fault tag word) :
    exec (.faultArrival p packet) s = .next (s.setPort p ((s.port p).takeFault tag word)) := by
  rw [exec_faultArrival, State.onTilePacket_of_inBurstOf h hfits, hv, Port.takeFaultVerdict]

/-- Settles O25: whether the exchange matches decides which of the two writes of the port it is. -/
theorem aFaultWordIsStoredOnceOrStray : Obligations.AFaultWordIsStoredOnceOrStray := by
  intro s p packet e tag word h hfits hv
  have ⟨_, _, hopen⟩ := h
  refine ⟨fun hfound => ?stored, fun hstray => ?stray⟩
  all_goals rw [exec_faultArrival_of_inBurstOf h hfits hv, Port.takeFault_of_exchange hopen]
  case stored => rw [if_pos ((e.matchesFault_iff tag).2 hfound)]
  case stray =>
    rw [if_neg (mt (e.matchesFault_iff tag).1 hstray)]
    rfl

end Sys2Proof.Machine

/-! SUPPORT and THEOREMS. ATTNn follows the return queue at every step (R145). -/

namespace Sys2Proof.Machine

/-! ### What it is for ATTNn to follow the return queue -/

/-- R145: the output stands as a judgement over the present contents would set it. -/
def ReturnQueue.IsJudged (q : ReturnQueue) : Prop := q.attention = q.callsHost

theorem LostFlag.isSet_iff (l : LostFlag) : l.isSet = true ↔ l ≠ .clear := by
  cases l <;> simp [LostFlag.isSet]

theorem ReturnQueue.callsHost_iff (q : ReturnQueue) :
    q.callsHost = true ↔ (∃ e ∈ q.entries, q.mask.covers e.kind = true)
      ∨ (q.lost ≠ .clear ∧ q.mask.lost = true) := by
  simp only [ReturnQueue.callsHost, Bool.or_eq_true, Bool.and_eq_true, List.any_eq_true,
    LostFlag.isSet_iff]

/-- R145 in the spec's own terms: entries that the mask covers, or the lost flag with LOST enabled. -/
theorem ReturnQueue.isJudged_iff (q : ReturnQueue) :
    q.IsJudged ↔ (q.attention = true ↔ (∃ e ∈ q.entries, q.mask.covers e.kind = true)
      ∨ (q.lost ≠ .clear ∧ q.mask.lost = true)) := by
  rw [← q.callsHost_iff]
  exact Bool.eq_iff_iff

/-! ### Operations of the return queue that judge ATTNn -/

theorem ReturnQueue.judged_isJudged (q : ReturnQueue) : q.judged.IsJudged := rfl

theorem ReturnQueue.push_isJudged (q : ReturnQueue) (e : Entry) : (q.push e).IsJudged := rfl

theorem ReturnQueue.lose_isJudged (q : ReturnQueue) (f : ReturnCounts → ReturnCounts) :
    (q.lose f).IsJudged := rfl

theorem ReturnQueue.asked_isJudged (q : ReturnQueue) (e : Entry) (c : ReturnCounts) :
    (q.asked e c).IsJudged := q.asked_attention e c

theorem ReturnQueue.request_isJudged (q : ReturnQueue) (e : Entry) (f : ReturnCounts → ReturnCounts) :
    (q.request e f).IsJudged := by
  rw [ReturnQueue.request_eq_asked]
  exact q.asked_isJudged e _

/-- R124: the answers of a completed record are judged as they join. -/
theorem ReturnQueue.IsJudged.joined {q : ReturnQueue} (h : q.IsJudged) :
    ∀ es : List Entry, (q.joined es).IsJudged
  | []      => h
  | e :: es => by
    rw [ReturnQueue.joined_eq]
    exact ReturnQueue.judged_isJudged _

/-! ### Changes that need no judgement: entries, mask and whether the flag is set stay as they are -/

theorem ReturnQueue.IsJudged.withReserved {q : ReturnQueue} (h : q.IsJudged) (n : Nat) :
    ({ q with reserved := n }).IsJudged := h

/-- R138: a ROOM that carries the lost flag leaves it set. -/
theorem LostFlag.afterRoomBuilt_isSet (l : LostFlag) : l.afterRoomBuilt.isSet = l.isSet := by
  cases l <;> rfl

theorem ReturnQueue.IsJudged.withRoomBuilt {q : ReturnQueue} (h : q.IsJudged) :
    ({ q with lost := q.lost.afterRoomBuilt }).IsJudged := by
  simpa only [ReturnQueue.IsJudged, ReturnQueue.callsHost, LostFlag.afterRoomBuilt_isSet] using h

/-- What leaves the return queue alone leaves ATTNn judged. -/
theorem State.isJudged_of_ret_eq {s u : State} (h : s.ret.IsJudged) (hu : u.ret = s.ret) :
    u.ret.IsJudged := hu ▸ h

theorem State.setPort_isJudged {s : State} (h : s.ret.IsJudged) (p : PortId) (x : Port) :
    (s.setPort p x).ret.IsJudged := State.isJudged_of_ret_eq h (s.setPort_ret p x)

/-! ### Events, replies and refusals: an entry joins or is lost, and ATTNn is judged -/

theorem State.emit_isJudged (s : State) (e : HubEvent) : (s.emit e).ret.IsJudged :=
  s.ret.request_isJudged _ _

theorem State.reply_isJudged (s : State) (c : MgmtCommand) (status : Status) (result : List Byte) :
    (s.reply c status result).ret.IsJudged := ReturnQueue.push_isJudged _ _

theorem State.ingressReply_isJudged (s : State) (t : Tag) (code : Byte) (status : Status) :
    (s.ingressReply t code status).ret.IsJudged := s.ret.request_isJudged _ _

theorem State.deferredDone_isJudged {s : State} (h : s.ret.IsJudged) (b : Byte) :
    (s.deferredDone b).ret.IsJudged := by
  unfold State.deferredDone
  split
  · exact State.reply_isJudged _ _ _ _
  · exact h

theorem State.refuse_isJudged {s : State} (h : s.ret.IsJudged) (hd : Header)
    (tagged : Option RequestKind) (r : RefusalReason) : (s.refuse hd tagged r).ret.IsJudged := by
  rw [State.refuse_eq]
  cases tagged with
  | none   => exact h
  | some _ => exact s.ret.asked_isJudged _ _

/-! ### Ingress -/

theorem State.failedPayload_isJudged {s : State} (h : s.ret.IsJudged) (hd : Header) :
    (s.failedPayload hd).ret.IsJudged := by
  unfold State.failedPayload
  split
  next =>
    split
    · exact s.ingressReply_isJudged _ _ _
    · exact h
  next =>
    split
    · exact h
    · split
      · exact State.refuse_isJudged h _ _ _
      · exact h
  next => exact h

/-- R162: a command is accepted, or its loss or its OVERRUN reply is judged. -/
theorem State.offerCommand_isJudged {s : State} (h : s.ret.IsJudged) (c : MgmtCommand) :
    (s.offerCommand c).ret.IsJudged := by
  unfold State.offerCommand
  split
  · exact s.ret.lose_isJudged _
  · split
    · exact h.withReserved _
    · exact ReturnQueue.push_isJudged _ _

theorem State.takeMgmt_isJudged {s : State} (h : s.ret.IsJudged) (hd : Header)
    (payload : List Byte) : (s.takeMgmt hd payload).ret.IsJudged := by
  unfold State.takeMgmt
  split
  · exact State.offerCommand_isJudged h _
  · exact s.ingressReply_isJudged _ _ _

@[simp] theorem State.appendAll_ret (s : State) (targets : List PortPieces) :
    (s.appendAll targets).ret = s.ret := by
  obtain ⟨ports, hports⟩ := s.appendAll_keeps targets
  rw [hports, State.withPorts_ret]

@[simp] theorem State.judgeAll_ret (s : State) (ps : List PortId) :
    (ps.foldl State.judgePort s).ret = s.ret := by
  obtain ⟨ports, hports⟩ := s.judgeAll_keeps ps
  rw [hports, State.withPorts_ret]

@[simp] theorem State.createFor_ret (s : State) (hd : Header) (tagged : Option RequestKind)
    (members : PortSet) (targets : List PortId) :
    (s.createFor hd tagged members targets).ret = s.ret := by
  cases tagged <;> rfl

/-- R59 to R61: an admission asks for nothing in the return queue. -/
theorem State.admitPacket_ret (s : State) (hd : Header) (tagged : Option RequestKind)
    (members : PortSet) (targets : List PortPieces) :
    (s.admitPacket hd tagged members targets).ret = s.ret := by
  simp only [State.admitPacket, State.judgeAll_ret, State.countStream_ret, State.createFor_ret,
    State.appendAll_ret]

theorem State.applyVerdict_isJudged {s : State} (h : s.ret.IsJudged) (hd : Header)
    (tagged : Option RequestKind) (v : Verdict) : (s.applyVerdict hd tagged v).ret.IsJudged := by
  cases v with
  | refused reason => exact State.refuse_isJudged h _ _ _
  | unmapped => exact h
  | granted members targets => exact State.isJudged_of_ret_eq h (s.admitPacket_ret _ _ _ _)

theorem State.examineCommit_isJudged {s : State} (h : s.ret.IsJudged) (kind : StreamKind)
    (hd : Header) : (s.examineCommit kind hd).ret.IsJudged := by
  unfold State.examineCommit
  split
  · exact State.emit_isJudged _ _
  · exact h

theorem State.classify_isJudged {s : State} (h : s.ret.IsJudged) (hd : Header)
    (payload : List Byte) : (s.classify hd payload).ret.IsJudged := by
  unfold State.classify
  split
  next => exact h
  next =>
    split
    · exact State.takeMgmt_isJudged h _ _
    · exact h
  next =>
    split
    · exact h
    · exact State.applyVerdict_isJudged (State.examineCommit_isJudged h _ _) _ _ _

/-! ### The transaction table -/

theorem State.storeOrComplete_isJudged {s : State} (h : s.ret.IsJudged) (t : Tag)
    (x : Transaction) : (s.storeOrComplete t x).ret.IsJudged := by
  rcases s.storeOrComplete_cases t x with ⟨_, hstore⟩ | ⟨_, hstore⟩ <;> rw [hstore]
  · exact h.joined _
  · exact h

theorem State.onOpenRecord_isJudged {s : State} (h : s.ret.IsJudged) (t : Tag)
    {f : Transaction → State} (hf : ∀ x, (f x).ret.IsJudged) :
    (s.onOpenRecord t f).ret.IsJudged := by
  rcases s.onOpenRecord_cases t f with ⟨x, _, _, hopen⟩ | ⟨_, hopen⟩ <;> rw [hopen]
  · exact hf x
  · exact h

theorem State.takeNotice_isJudged {s : State} (h : s.ret.IsJudged) (p : PortId) (n : Notice) :
    (s.takeNotice p n).ret.IsJudged :=
  State.onOpenRecord_isJudged h _ fun _ => State.storeOrComplete_isJudged h _ _

theorem State.handNotices_isJudged {s : State} (h : s.ret.IsJudged) (p : PortId)
    (ns : List Notice) : (s.handNotices p ns).ret.IsJudged := by
  induction ns generalizing s with
  | nil => exact h
  | cons n ns ih => exact ih (State.takeNotice_isJudged h p n)

theorem State.handResult_isJudged {s : State} (h : s.ret.IsJudged) (p : PortId) (e : Exchange) :
    (s.handResult p e).ret.IsJudged := by
  unfold State.handResult
  split
  · exact State.onOpenRecord_isJudged h _ fun _ => State.storeOrComplete_isJudged h _ _
  · exact h

/-! ### The sync groups -/

theorem State.roundEnds_isJudged (s : State) (g : GroupId) : (s.roundEnds g).ret.IsJudged := by
  rw [← State.completeRound_eq]
  exact s.emit_isJudged _

theorem State.judgeRound_isJudged {s : State} (h : s.ret.IsJudged) (g : GroupId) :
    (s.judgeRound g).ret.IsJudged := by
  rcases s.judgeRound_cases g with ⟨_, hround⟩ | ⟨_, hround⟩ <;> rw [hround]
  · exact s.roundEnds_isJudged g
  · exact h

theorem State.memberDown_isJudged {s : State} (h : s.ret.IsJudged) (p : PortId) :
    (s.memberDown p).ret.IsJudged := by
  rcases s.memberDown_cases p with hdown | ⟨g, _, _, hdown | hdown⟩ <;> rw [hdown]
  · exact h
  · exact s.emit_isJudged _
  · exact s.roundEnds_isJudged g

theorem State.takeSync_isJudged {s : State} (h : s.ret.IsJudged) (p : PortId) :
    (s.takeSync p).ret.IsJudged := by
  have armed (g : GroupId) : (s.armedSync g p).ret.IsJudged := by
    unfold State.armedSync
    split
    · exact h
    · exact State.judgeRound_isJudged (State.isJudged_of_ret_eq h (s.setGroup_ret g _)) g
  unfold State.takeSync
  split
  · split
    · exact armed _
    · exact h
  · exact h

/-! ### Ports that go out of service or come back -/

theorem State.goDown_isJudged (s : State) (p : PortId) (c : Cause) :
    (s.goDown p c).ret.IsJudged := by
  have told (u : State) (payload : List Byte) :
      ((u.requestsEvent payload).memberDown p).ret.IsJudged :=
    State.memberDown_isJudged (u.ret.asked_isJudged _ _) p
  by_cases howed : (s.port p).owed = .stop
  · rw [s.goDown_of_owed p c howed]
    exact State.deferredDone_isJudged (State.setPort_isJudged (told _ _) p _) _
  · rw [s.goDown_of_not_owed p c howed]
    exact told _ _

theorem State.answerRestart_isJudged {s : State} (h : s.ret.IsJudged) (p : PortId)
    (d : Destination) : (s.answerRestart p d).ret.IsJudged := by
  unfold State.answerRestart
  split
  · exact State.deferredDone_isJudged (State.setPort_isJudged h p _) _
  · exact h

theorem State.arrive_isJudged {s : State} (h : s.ret.IsJudged) (p : PortId) (d : Destination) :
    (s.arrive p d).ret.IsJudged := by
  cases d with
  | ready => exact h
  | down c => exact s.goDown_isJudged p c

theorem State.failPort_isJudged {s : State} (h : s.ret.IsJudged) (p : PortId) (f : Port → Port) :
    (s.failPort p f).ret.IsJudged :=
  State.handNotices_isJudged (State.setPort_isJudged h p _) p _

theorem State.stopPort_isJudged {s : State} (h : s.ret.IsJudged) (p : PortId) :
    (s.stopPort p).ret.IsJudged := by
  simp only [State.stopPort]
  split
  · exact State.handNotices_isJudged (State.setPort_isJudged h p _) p _
  · exact h

theorem State.restartPort_isJudged {s : State} (h : s.ret.IsJudged) (p : PortId) :
    (s.restartPort p).ret.IsJudged := by
  simp only [State.restartPort]
  split
  · exact State.handNotices_isJudged (State.setPort_isJudged h p _) p _
  · exact h

/-! ### The rows of the upstream link -/

theorem State.truncatePacket_isJudged {s : State} (h : s.ret.IsJudged) (cut : List Byte) :
    (s.truncatePacket cut).ret.IsJudged := by
  unfold State.truncatePacket
  split
  · exact State.failedPayload_isJudged (s := s.countTruncated) h _
  · split <;> exact h

theorem State.openHostBurst_isJudged {s : State} (h : s.ret.IsJudged) (cut : List Byte) :
    (s.openHostBurst cut).ret.IsJudged := by
  unfold State.openHostBurst
  split
  next => exact State.truncatePacket_isJudged h cut
  all_goals exact h

theorem State.closeHostBurst_isJudged {s : State} (h : s.ret.IsJudged) (cut : List Byte) :
    (s.closeHostBurst cut).ret.IsJudged := by
  unfold State.closeHostBurst
  split
  next => exact State.truncatePacket_isJudged h cut
  all_goals exact h

theorem State.takeHeader_isJudged {s : State} (h : s.ret.IsJudged) (header : List Byte) :
    (s.takeHeader header).ret.IsJudged := by
  unfold State.takeHeader
  split
  next hd _ =>
    unfold State.goodHeader
    split
    · exact State.classify_isJudged h hd []
    · exact h
  next => exact h

theorem State.headerArrived_isJudged {s : State} (h : s.ret.IsJudged) (header : List Byte) :
    (s.headerArrived header).ret.IsJudged := by
  unfold State.headerArrived
  split
  · split
    · exact State.takeHeader_isJudged h header
    · exact h
  · exact h

theorem State.payloadArrived_isJudged {s : State} (h : s.ret.IsJudged) (hd : Header)
    (payload : List Byte) (check : Half) : (s.payloadArrived hd payload check).ret.IsJudged := by
  unfold State.payloadArrived
  split
  · exact State.classify_isJudged (s := s.setRx .inBurst) h hd payload
  · exact State.failedPayload_isJudged (s := (s.setRx .inBurst).countUpstream _) h hd

theorem State.packetArrived_isJudged {s : State} (h : s.ret.IsJudged) (payload : List Byte)
    (check : Half) : (s.packetArrived payload check).ret.IsJudged := by
  unfold State.packetArrived
  split
  · split
    · exact State.payloadArrived_isJudged h _ payload check
    · exact h
  · exact h

theorem State.strayHostData_ret (s : State) : s.strayHostData.ret = s.ret := by
  unfold State.strayHostData
  split <;> rfl

theorem State.onHostToken_isJudged {s : State} (h : s.ret.IsJudged) {act : State → State}
    (hact : (act s).ret.IsJudged) : (s.onHostToken act).ret.IsJudged := by
  unfold State.onHostToken
  split
  next => exact hact
  all_goals exact h

/-- R139: the ROOM of a new turn carries the lost flag, which stays set. -/
theorem State.startTurn_isJudged {s : State} (h : s.ret.IsJudged) : s.startTurn.ret.IsJudged :=
  h.withRoomBuilt

/-- R147: ATTNn is judged over the emptied queue. -/
theorem State.hubCleared_isJudged (s : State) : s.hubCleared.ret.IsJudged :=
  ReturnQueue.judged_isJudged _

theorem State.wrongHostToken_isJudged {s : State} (h : s.ret.IsJudged) (code : Byte) :
    (s.wrongHostToken code).ret.IsJudged := by
  refine State.onHostToken_isJudged h ?_
  split <;> exact h

theorem State.hostCollision_ret (s : State) : s.hostCollision.ret = s.ret := by
  unfold State.hostCollision
  split <;> rfl

theorem State.onTurn_isJudged {s : State} (h : s.ret.IsJudged) (phase : TurnPhase)
    {f : Turn → State} (hf : ∀ turn, (f turn).ret.IsJudged) : (s.onTurn phase f).ret.IsJudged := by
  unfold State.onTurn
  split
  · split
    · exact hf _
    · exact h
  · exact h

theorem State.roomSent_isJudged (s : State) (turn : Turn) : (s.roomSent turn).ret.IsJudged :=
  ReturnQueue.judged_isJudged _

@[simp] theorem State.releaseFor_ret (s : State) (e : Entry) : (s.releaseFor e).ret = s.ret := by
  unfold State.releaseFor
  split <;> rfl

theorem State.entrySent_isJudged (s : State) (turn : Turn) (e : Entry) (rest : List Entry) :
    (s.entrySent turn e rest).ret.IsJudged := by
  have hret : (s.entrySent turn e rest).ret = ({ s.ret with entries := rest }).judged :=
    State.releaseFor_ret _ e
  exact State.isJudged_of_ret_eq (s := s.withRet _) (ReturnQueue.judged_isJudged _) hret

theorem State.headSent_isJudged {s : State} (h : s.ret.IsJudged) (turn : Turn) :
    (s.headSent turn).ret.IsJudged := by
  unfold State.headSent
  split
  · exact s.entrySent_isJudged _ _ _
  · exact h

/-! ### The rows of the tile links -/

theorem State.pieceSent_ret (s : State) (p : PortId) : (s.pieceSent p).ret = s.ret := by
  unfold State.pieceSent
  split <;> rfl

theorem State.openExchange_isJudged {s : State} (h : s.ret.IsJudged) (p : PortId)
    (a : PendingAnswer) : (s.openExchange p a).ret.IsJudged := by
  unfold State.openExchange
  split
  · exact State.onOpenRecord_isJudged (State.setPort_isJudged h p _) _ fun _ => h
  · exact h

theorem State.answerPassSent_isJudged {s : State} (h : s.ret.IsJudged) (p : PortId) :
    (s.answerPassSent p).ret.IsJudged := by
  unfold State.answerPassSent
  split
  next => exact State.openExchange_isJudged h p _
  all_goals exact h

theorem State.watchPassSent_ret (s : State) (p : PortId) : (s.watchPassSent p).ret = s.ret := by
  unfold State.watchPassSent
  split <;> rfl

theorem State.clearingDone_isJudged {s : State} (h : s.ret.IsJudged) (p : PortId) :
    (s.clearingDone p).ret.IsJudged := by
  unfold State.clearingDone
  split
  · exact State.arrive_isJudged (State.answerRestart_isJudged h p _) p _
  · exact h

/-- R24: a packet from a tile touches its port only. -/
theorem State.onTilePacket_ret (s : State) (p : PortId) (packet : TilePacket)
    (f : TileVerdict → Port → Port) : (s.onTilePacket p packet f).ret = s.ret := by
  rcases s.onTilePacket_cases p packet f with hport | hport <;> rw [hport]
  rfl

theorem State.onTileToken_isJudged {s : State} (h : s.ret.IsJudged) (p : PortId)
    {act : State → State} (hact : (act s).ret.IsJudged) : (s.onTileToken p act).ret.IsJudged := by
  unfold State.onTileToken
  split
  · split
    next => exact hact
    all_goals exact h
  · exact h

theorem State.tilePassed_isJudged {s : State} (h : s.ret.IsJudged) (p : PortId) :
    (s.tilePassed p).ret.IsJudged := by
  unfold State.tilePassed
  split
  · exact State.handResult_isJudged (State.setPort_isJudged h p _) p _
  · exact h

theorem State.tileTokenError_isJudged {s : State} (h : s.ret.IsJudged) (p : PortId) (code : Byte) :
    (if tileMaySend code then s else s.setPort p (s.port p).takeStray).ret.IsJudged := by
  split <;> exact h

theorem State.whileReceiving_ret (s : State) (p : PortId) (f : Port → Port) :
    (s.whileReceiving p f).ret = s.ret := by
  unfold State.whileReceiving
  split <;> rfl

theorem State.tileCollided_isJudged {s : State} (h : s.ret.IsJudged) (p : PortId) :
    (s.tileCollided p).ret.IsJudged := by
  unfold State.tileCollided
  split
  · split
    · exact h
    · exact State.failPort_isJudged h p _
  · exact h

/-! ### The rows of the timers -/

theorem State.answerExpired_isJudged {s : State} (h : s.ret.IsJudged) (p : PortId) :
    (s.answerExpired p).ret.IsJudged := by
  unfold State.answerExpired
  split
  · exact State.failPort_isJudged h p _
  · exact h

theorem State.seizeDone_ret (s : State) (p : PortId) : (s.seizeDone p).ret = s.ret := by
  unfold State.seizeDone
  split <;> rfl

@[simp] theorem State.expirePorts_ret (s : State) (t : Tag) (parts : List PortRecord) :
    (s.expirePorts t parts).ret = s.ret := by
  induction parts generalizing s with
  | nil => rfl
  | cons r rs ih => exact ih (s.setPort r.port ((s.port r.port).expire t r))

theorem State.deadlineExpired_isJudged {s : State} (h : s.ret.IsJudged) (t : Tag) :
    (s.deadlineExpired t).ret.IsJudged := by
  refine State.onOpenRecord_isJudged h t fun x => ?_
  split
  · have hports : (s.expirePorts t x.parts).ret.IsJudged :=
      State.isJudged_of_ret_eq h (s.expirePorts_ret t x.parts)
    exact hports.joined _
  · exact h

theorem State.windowExpired_isJudged {s : State} (h : s.ret.IsJudged) (g : GroupId) :
    (s.windowExpired g).ret.IsJudged := by
  unfold State.windowExpired
  split
  · exact s.emit_isJudged _
  · exact h

/-! ### The management rows -/

/-- A management row takes the agent's next command, or leaves the state as it is. -/
theorem State.execute_isJudged {s : State} (h : s.ret.IsJudged) (name : CommandName)
    {run : MgmtCommand → State → State}
    (hrun : ∀ c u, u.ret.IsJudged → (run c u).ret.IsJudged) : (s.execute name run).ret.IsJudged := by
  unfold State.execute
  split
  · split
    · exact hrun _ _ h
    · exact h
  · exact h

theorem withArgs_isJudged {α : Type} (c : MgmtCommand) (args : Option α) (s : State)
    {run : α → State} (hrun : ∀ a, (run a).ret.IsJudged) : (withArgs c args s run).ret.IsJudged := by
  rcases withArgs_cases c args s run with ⟨_, hargs⟩ | ⟨a, _, hargs⟩ <;> rw [hargs]
  · exact s.reply_isJudged _ _ _
  · exact hrun a

theorem unlessPending_isJudged (c : MgmtCommand) (s : State) {run : State}
    (hrun : run.ret.IsJudged) : (unlessPending c s run).ret.IsJudged := by
  unfold unlessPending
  split
  · exact s.reply_isJudged _ _ _
  · exact hrun

section
variable (c : MgmtCommand) (s : State)

theorem runStageEntry_isJudged : (runStageEntry c s).ret.IsJudged := by
  refine withArgs_isJudged c _ s fun a => unlessPending_isJudged c s ?_
  split <;> exact State.reply_isJudged _ _ _ _

theorem runCommitCancel_isJudged : (runCommitCancel c s).ret.IsJudged := by
  refine withArgs_isJudged c _ s fun _ => ?_
  split <;> exact State.reply_isJudged _ _ _ _

theorem runSyncSet_isJudged : (runSyncSet c s).ret.IsJudged := by
  refine withArgs_isJudged c _ s fun a => ?_
  split <;> exact State.reply_isJudged _ _ _ _

/-- R165: a command that ends in its answer is answered in either course of its argument check. -/
theorem withArgs_reply_isJudged {α : Type} (args : Option α) (u : α → State) (status : α → Status)
    (result : α → List Byte) :
    (withArgs c args s fun a => (u a).reply c (status a) (result a)).ret.IsJudged :=
  withArgs_isJudged c args s fun _ => State.reply_isJudged _ _ _ _

/-- R43: an edit of the banks is answered, or turned away BUSY. -/
theorem withArgs_unlessPending_isJudged {α : Type} (args : Option α) (u : α → State)
    (status : α → Status) :
    (withArgs c args s fun a => unlessPending c s ((u a).reply c (status a) [])).ret.IsJudged :=
  withArgs_isJudged c args s fun _ => unlessPending_isJudged c s (State.reply_isJudged _ _ _ _)

/-- R170: a PORT-STOP is answered at once, or held while its port is stopped. -/
theorem runPortStop_isJudged (h : s.ret.IsJudged) : (runPortStop c s).ret.IsJudged := by
  refine withArgs_isJudged c _ s fun p => ?_
  unfold State.stopCommand
  split
  next => exact s.reply_isJudged _ _ _
  all_goals exact State.stopPort_isJudged (s := s.defer c) h p

/-- R171: a PORT-RESTART is held while its port is restarted. -/
theorem runPortRestart_isJudged (h : s.ret.IsJudged) : (runPortRestart c s).ret.IsJudged :=
  withArgs_isJudged c _ s fun p => State.restartPort_isJudged (s := s.defer c) h p

end

/-! ### Every row, and every step -/

/-- Every command ends in a state in which ATTNn follows, when it starts in one. -/
theorem exec_isJudged {s : State} (h : s.ret.IsJudged) (i : Instr) :
    ∃ t, exec i s = .next t ∧ t.ret.IsJudged := by
  have token (p : PortId) (act : State → State) (hact : (act s).ret.IsJudged) :=
    State.onTileToken_isJudged h p hact
  have packet (p : PortId) (x : TilePacket) (f : TileVerdict → Port → Port) :=
    State.isJudged_of_ret_eq h (s.onTilePacket_ret p x f)
  have receiving (p : PortId) (f : Port → Port) :=
    State.isJudged_of_ret_eq h (s.whileReceiving_ret p f)
  have answered (name : CommandName) (run : MgmtCommand → State → State)
      (hrun : ∀ c u, (run c u).ret.IsJudged) :=
    State.execute_isJudged h name fun c u _ => hrun c u
  cases i with
  | reset => exact ⟨_, rfl, rfl⟩
  | upstreamBurstOpen cut => exact ⟨_, rfl, State.openHostBurst_isJudged h cut⟩
  | headerArrival header => exact ⟨_, rfl, State.headerArrived_isJudged h header⟩
  | packetArrival payload check => exact ⟨_, rfl, State.packetArrived_isJudged h payload check⟩
  | upstreamBurstClose cut => exact ⟨_, rfl, State.closeHostBurst_isJudged h cut⟩
  | strayDataSymbol b => exact ⟨_, rfl, State.isJudged_of_ret_eq h s.strayHostData_ret⟩
  | hostPass => exact ⟨_, rfl, State.onHostToken_isJudged h (State.startTurn_isJudged h)⟩
  | hubClear => exact ⟨_, rfl, State.onHostToken_isJudged h s.hubCleared_isJudged⟩
  | upstreamTokenError code => exact ⟨_, rfl, State.wrongHostToken_isJudged h code⟩
  | upstreamCollision => exact ⟨_, rfl, State.isJudged_of_ret_eq h s.hostCollision_ret⟩
  | roomSent => exact ⟨_, rfl, State.onTurn_isJudged h _ s.roomSent_isJudged⟩
  | entrySent => exact ⟨_, rfl, State.onTurn_isJudged h _ (State.headSent_isJudged h)⟩
  | returnTurnPassSent => exact ⟨_, rfl, State.onTurn_isJudged h _ fun _ => h⟩
  | pieceSent p => exact ⟨_, rfl, State.isJudged_of_ret_eq h (s.pieceSent_ret p)⟩
  | exchangeOpen p => exact ⟨_, rfl, State.answerPassSent_isJudged h p⟩
  | watchOpen p => exact ⟨_, rfl, State.isJudged_of_ret_eq h (s.watchPassSent_ret p)⟩
  | replyArrival p x => exact ⟨_, rfl, packet p x _⟩
  | faultArrival p x => exact ⟨_, rfl, packet p x _⟩
  | ackToken p => exact ⟨_, rfl, token p _ h⟩
  | syncToken p => exact ⟨_, rfl, token p _ (State.takeSync_isJudged h p)⟩
  | tilePass p => exact ⟨_, rfl, token p _ (State.tilePassed_isJudged h p)⟩
  | tileBadPacket p x => exact ⟨_, rfl, packet p x _⟩
  | tileStrayPacket p x => exact ⟨_, rfl, packet p x _⟩
  | tileTokenError p code => exact ⟨_, rfl, token p _ (State.tileTokenError_isJudged h p code)⟩
  | tileBurstOpen p cut => exact ⟨_, rfl, receiving p _⟩
  | tileBurstClose p cut => exact ⟨_, rfl, receiving p _⟩
  | tileStrayData p b => exact ⟨_, rfl, receiving p _⟩
  | tileCollision p => exact ⟨_, rfl, State.tileCollided_isJudged h p⟩
  | answerTimerExpiry p => exact ⟨_, rfl, State.answerExpired_isJudged h p⟩
  | seizeComplete p => exact ⟨_, rfl, State.isJudged_of_ret_eq h (s.seizeDone_ret p)⟩
  | clearSent p => exact ⟨_, rfl, State.clearingDone_isJudged h p⟩
  | deadlineExpiry t => exact ⟨_, rfl, State.deadlineExpired_isJudged h t⟩
  | syncWindowExpiry g => exact ⟨_, rfl, State.windowExpired_isJudged h g⟩
  | info => exact ⟨_, rfl, answered _ _ fun c u => withArgs_reply_isJudged c u _ _ _ _⟩
  | stageEntry => exact ⟨_, rfl, answered _ _ runStageEntry_isJudged⟩
  | stageOff => exact ⟨_, rfl, answered _ _ fun c u => withArgs_unlessPending_isJudged c u _ _ _⟩
  | stageCopy => exact ⟨_, rfl, answered _ _ fun c u => withArgs_unlessPending_isJudged c u _ _ _⟩
  | readEntry => exact ⟨_, rfl, answered _ _ fun c u => withArgs_reply_isJudged c u _ _ _ _⟩
  | commitNow => exact ⟨_, rfl, answered _ _ fun c u => withArgs_unlessPending_isJudged c u _ _ _⟩
  | commitAtFrame => exact ⟨_, rfl, answered _ _ fun c u => withArgs_unlessPending_isJudged c u _ _ _⟩
  | commitCancel => exact ⟨_, rfl, answered _ _ runCommitCancel_isJudged⟩
  | portSet => exact ⟨_, rfl, answered _ _ fun c u => withArgs_reply_isJudged c u _ _ _ _⟩
  | portStop => exact ⟨_, rfl, State.execute_isJudged h _ runPortStop_isJudged⟩
  | portRestart => exact ⟨_, rfl, State.execute_isJudged h _ runPortRestart_isJudged⟩
  | portRead => exact ⟨_, rfl, answered _ _ fun c u => withArgs_reply_isJudged c u _ _ _ _⟩
  | syncSet => exact ⟨_, rfl, answered _ _ runSyncSet_isJudged⟩
  | syncRead => exact ⟨_, rfl, answered _ _ fun c u => withArgs_reply_isJudged c u _ _ _ _⟩
  | returnSet => exact ⟨_, rfl, answered _ _ fun c u => withArgs_reply_isJudged c u _ _ _ _⟩
  | tagRead => exact ⟨_, rfl, answered _ _ fun c u => withArgs_reply_isJudged c u _ _ _ _⟩
  | countersRead => exact ⟨_, rfl, answered _ _ fun c u => withArgs_reply_isJudged c u _ _ _ _⟩
  | countersClear => exact ⟨_, rfl, answered _ _ fun c u => withArgs_reply_isJudged c u _ _ _ _⟩
  | unknownCommand => exact ⟨_, rfl, answered _ _ fun c u => u.reply_isJudged c _ _⟩

/-- A command keeps ATTNn judged; a microsecond does not reach the return queue. -/
theorem step_isJudged {s t : State} (h : s.ret.IsJudged) (hstep : step s = .next t) :
    t.ret.IsJudged := by
  unfold step at hstep
  split at hstep
  · cases hstep
    exact h
  next i rest _ =>
    obtain ⟨u, hexec, hu⟩ := exec_isJudged (s := s.withPending rest) h i
    cases hexec.symm.trans hstep
    exact hu

/-- Settles O51: ATTNn is judged in the reset state, and every step either judges it again or leaves what it
is judged over alone. -/
theorem attentionFollowsTheReturnQueue : Obligations.AttentionFollowsTheReturnQueue :=
  ⟨rfl, fun s t hs hstep => t.ret.isJudged_iff.1 (step_isJudged (s.ret.isJudged_iff.2 hs) hstep)⟩

end Sys2Proof.Machine

/-! SUPPORT. The moves that every command is made of, said once: what the statements about every step
are proved of each move, and so of every command. -/

namespace Sys2Proof.Machine

/-! ### What a block can become in one move -/

/-- Every entry of the table `x` stands in a bank of `y` already, or meets the conditions of R29. -/
def StreamTable.From (x y : StreamTable) : Prop :=
  ∀ i : Fin 31,
    (x.active[i] = y.active[i] ∨ x.active[i] = y.staged[i])
    ∧ (x.staged[i] = y.active[i] ∨ x.staged[i] = y.staged[i] ∨ x.staged[i].valid = true)

/-- What a sync group can become, but for a SYNC-SET and a microsecond (R152 to R155, R159, R177). -/
inductive SyncGroup.Move (x : SyncGroup) : SyncGroup → Prop where
  | counted (rounds splits earlySyncs : Count) :
      SyncGroup.Move x { x with rounds := rounds, splits := splits, earlySyncs := earlySyncs }
  | emptied (mode : GroupMode) (n : Nat) (rounds splits : Count) (hm : mode = x.mode ∨ mode = .off)
      (hn : n = x.roundNumber ∨ n < 65536) :
      SyncGroup.Move x { x with
        reported := 0, timer := none, mode := mode, roundNumber := n, rounds := rounds, splits := splits }
  | reported (p : PortId) (ha : x.armed = true) (hp : PortSet.has x.members p = true) :
      SyncGroup.Move x (x.reportedBy p)

/-- What a tile port that is wanted to watch, or not, can become without the help of another block:
neither its notice to the agent nor its transactions are touched. -/
inductive Port.Move (wanted : Bool) (x : Port) : Port → Prop where
  | counted (c : PortCounts) : Port.Move wanted x { x with counts := c }
  | configured (a : PortSettings)
      (ha : 10 ≤ a.answerTimeout ∧ a.answerTimeout ≤ 50000 ∧ 1 ≤ a.failureLimit ∧ a.failureLimit ≤ 7) :
      Port.Move wanted x (x.configured a)
  | received (f : Exchange → Exchange) (rx : RxState) (c : PortCounts) (hx : x.receives = true)
      (hf : ∀ e, (f e).tag = e.tag ∧ (f e).answers = e.answers ∧ (f e).orphan = e.orphan) :
      Port.Move wanted x { x with exchange := x.exchange.map f, rx := rx, counts := c }
  | sent (wire : List Byte) (head : Piece) (rest : List Piece) (hp : x.phase = .sending)
      (ht : x.tx = .piece wire) (hq : x.queue = head :: rest) :
      Port.Move wanted x ((x.afterPiece head rest).judge wanted)
  | watchOpened (hp : x.phase = .ready) (ht : x.tx = .passWatch) : Port.Move wanted x x.openWatch
  | passEnded (d : Destination) (hp : x.phase = .clearing d) (ht : x.tx = .passAnswer ∨ x.tx = .passWatch) :
      Port.Move wanted x x.passEndedInClearing
  | seizeCompleted (n : Nat) (hs : x.seize = some n) : Port.Move wanted x x.seizeCompleted
  | cleared (hp : x.phase = .clearing .ready) (ht : x.tx = .clear) (ho : x.owed ≠ .restart) :
      Port.Move wanted x (({ x with phase := .ready, tx := .idle }).judge wanted)
  | collidedDown (hh : x.holder = .hub) (hd : x.isDown = true) : Port.Move wanted x x.collided

/-! ### What the hub can become in one move -/

/-- One move of the tile ports and their transactions: of the other blocks, only the counts of ingress
and the reserved part of the return queue are touched. -/
inductive State.LinkMove (s : State) : State → Prop where
  | ported (p : PortId) (x : Port) (hx : (s.port p).Move (s.wanted p) x) : State.LinkMove s (s.setPort p x)
  | exchangeOpened (p : PortId) (a : PendingAnswer) (hp : (s.port p).phase = .sending)
      (ht : (s.port p).tx = .passAnswer) (ha : (s.port p).pendingAnswer = some a) :
      State.LinkMove s (s.openExchange p a)
  | exchangeEnded (p : PortId) (e : Exchange) (hp : (s.port p).receives = true)
      (he : (s.port p).exchange = some e) :
      State.LinkMove s (((s.setPort p (s.port p).endExchange).handResult p e).judgePort p)
  | timedOut (p : PortId) (n : Nat) (hp : (s.port p).phase = .waiting)
      (hn : (s.port p).answerTimer = some n) : State.LinkMove s (s.failPort p Port.timedOut)
  | collided (p : PortId) (hh : (s.port p).holder = .hub) (hs : (s.port p).seize = none)
      (hd : (s.port p).isDown = false) : State.LinkMove s (s.failPort p Port.collided)
  | admitted (kind : StreamKind) (h : Header) (payload : List Byte) (members : PortSet) (out : Nat)
      (fields : EntryClass) (hl : s.table.lookup h.stream = .on members out fields)
      (hh : headRefusal kind h payload members fields (s.tagHeld h.tag) = none)
      (ht : s.sliceFor kind h payload members out fields ≠ [])
      (hr : ∀ x ∈ s.sliceFor kind h payload members out fields, (s.port x.port).hasRoom x.pieces = true) :
      State.LinkMove s
        (s.admitPacket h (kind.tagged h) members (s.sliceFor kind h payload members out fields))
  | expired (t : Tag) (x : Transaction) (hx : s.record t = some x) (ho : x.state = .opened) :
      State.LinkMove s (s.expireRecord t x)

/-- One move of the hub. -/
inductive State.Move (s : State) : State → Prop where
  | reset : State.Move s (State.reset.withPending s.pending)
  | hubCleared (hd : s.upstream.direction = .follower) : State.Move s s.hubCleared
  | counted (x : IngressCounts) : State.Move s (s.withIngress x)
  | upstreamCounted (f : UpstreamCounts → UpstreamCounts) : State.Move s (s.countUpstream f)
  | framed (rx : RxState) (hd : s.upstream.direction = .follower) : State.Move s (s.setRx rx)
  | headerTaken (h : Header) (hd : s.upstream.direction = .follower) (hr : s.upstream.rx = .inBurst)
      (hl : 1 ≤ h.length ∧ h.length ≤ Config.maxLength) :
      State.Move s (s.withUpstream { s.upstream with inProgress := some h })
  | turnStarted (hd : s.upstream.direction = .follower) (hr : s.upstream.rx = .resting) :
      State.Move s s.startTurn
  | turnEnded : State.Move s s.endTurn
  | roomSent (x : Turn) (hd : s.upstream.direction = .holder) (hx : s.upstream.turn = some x)
      (hp : x.phase = .room) : State.Move s (s.roomSent x)
  | entrySent (x : Turn) (e : Entry) (rest : List Entry) (hd : s.upstream.direction = .holder)
      (hx : s.upstream.turn = some x) (hp : x.phase = .entry) (he : s.ret.entries = e :: rest) :
      State.Move s (s.entrySent x e rest)
  | noted (q : ReturnQueue) (he : q.entries = s.ret.entries) (hr : q.reserved = s.ret.reserved)
      (hb : q.budget = s.ret.budget) : State.Move s (s.withRet q)
  | joined (e : Entry) (he : e.slot = .shared) (hf : s.ret.freeShared ≠ 0) :
      State.Move s (s.withRet (s.ret.push e))
  | accepted (c : MgmtCommand) (hf : s.ret.freeShared ≠ 0)
      (hq : s.agent.queue.length < Config.commandQueueCapacity) : State.Move s (s.acceptCommand c)
  | answered (c : MgmtCommand) (rest : List MgmtCommand) (status : Byte) (result : List Byte)
      (h : s.offers c rest) : State.Move s (s.taken c rest status result)
  | configured (a : ReturnSettings) (ha : 1 ≤ a.budget ∧ a.budget ≤ 32 ∧ a.deadlineMs ≤ 1000) :
      State.Move s ((s.withRet (s.ret.configured a)).withTxns { s.txns with deadlineMs := a.deadlineMs })
  | banked (x : StreamTable) (hx : x.From s.table) : State.Move s (s.withTable x)
  | synced (x : SyncBlock) (hx : ∀ g : GroupId, (s.group g).Move x.groups[g]) : State.Move s (s.withSync x)
  | regrouped (a : SyncSettings) (mode : GroupMode) (hw : 1 ≤ a.window ∧ a.window ≤ 65535)
      (hm : ∀ k, k ≠ a.group → (s.group k).members &&& a.members = 0) :
      State.Move s ((s.setGroup a.group { (s.group a.group).configured a with mode := mode }).tellWatches s)
  | stopHeld (c : MgmtCommand) (rest : List MgmtCommand) (p : PortId) (h : s.offers c rest)
      (hc : c.payload = [0x09, byte p]) (hd : (s.port p).isDown = false) :
      State.Move s ((s.held c rest).stopPort p)
  | restartHeld (c : MgmtCommand) (rest : List MgmtCommand) (p : PortId) (h : s.offers c rest)
      (hc : c.payload = [0x0A, byte p]) : State.Move s ((s.held c rest).restartPort p)
  | restartAnswered (p : PortId) (b : Byte) (ho : (s.port p).owed = .restart) :
      State.Move s ((s.setPort p { s.port p with owed := .none }).deferredDone b)
  | wentDown (p : PortId) (c : Cause) (hp : (s.port p).phase = .clearing (.down c))
      (ht : (s.port p).tx = .clear) (ho : (s.port p).owed ≠ .restart) : State.Move s (s.goDown p c)
  | linked {t : State} (h : s.LinkMove t) : State.Move s t

/-- A run of moves. -/
def State.Moves : State → State → Prop := Relation.ReflTransGen State.Move

/-- What every move keeps, a run of moves keeps. -/
theorem State.Moves.keeps {P : State → Prop} (hP : ∀ s t, State.Move s t → P s → P t) {s t : State}
    (h : s.Moves t) (hs : P s) : P t := by
  induction h with
  | refl => exact hs
  | tail _ hmove ih => exact hP _ _ hmove ih

theorem State.Moves.refl (s : State) : s.Moves s := Relation.ReflTransGen.refl

theorem State.Moves.trans {s t u : State} (h : s.Moves t) (k : t.Moves u) : s.Moves u :=
  Relation.ReflTransGen.trans h k

theorem State.Moves.one {s t : State} (h : s.Move t) : s.Moves t := Relation.ReflTransGen.single h

theorem State.Moves.andThen {s t u : State} (h : s.Moves t) (k : t.Move u) : s.Moves u :=
  Relation.ReflTransGen.tail h k

end Sys2Proof.Machine

/-! SUPPORT. Every command is a run of moves, row by row. -/

namespace Sys2Proof.Machine

/-! ### Blocks that a move leaves as they are -/

theorem SyncGroup.Move.refl (x : SyncGroup) : x.Move x := .counted x.rounds x.splits x.earlySyncs

theorem State.setGroup_getElem (s : State) (g k : GroupId) (x : SyncGroup) :
    (s.setGroup g x).sync.groups[k] = if k = g then x else s.group k := s.setGroup_group g k x

/-- A move of one group, the others as they are. -/
theorem State.setGroup_moves {s : State} {g : GroupId} {x : SyncGroup} (h : (s.group g).Move x) :
    s.Moves (s.setGroup g x) := by
  refine State.Moves.one (.synced (s.setGroup g x).sync fun k => ?_)
  rw [State.setGroup_getElem]
  by_cases hk : k = g
  · subst hk; simpa using h
  · simpa [hk] using SyncGroup.Move.refl (s.group k)

/-! ### The return queue -/

theorem State.lose_moves (s : State) (f : ReturnCounts → ReturnCounts) :
    s.Moves (s.withRet (s.ret.lose f)) := State.Moves.one (.noted _ rfl rfl rfl)

/-- A request for a shared slot: the entry joins, or its loss is noted. -/
theorem State.request_moves (s : State) (e : Entry) (f : ReturnCounts → ReturnCounts)
    (he : e.slot = .shared) : s.Moves (s.withRet (s.ret.request e f)) := by
  unfold ReturnQueue.request
  split
  · exact s.lose_moves f
  next hfree => exact State.Moves.one (.joined e he hfree)

theorem State.emit_moves (s : State) (e : HubEvent) : s.Moves (s.emit e) :=
  s.request_moves e.entry _ rfl

/-! ### Ingress -/

theorem State.countStream_moves (s : State) (n : Nat) (f : StreamCounts → StreamCounts) :
    s.Moves (s.countStream n f) := State.Moves.one (.counted _)

theorem State.refuse_moves (s : State) (h : Header) (tagged : Option RequestKind) (r : RefusalReason) :
    s.Moves (s.refuse h tagged r) := by
  have hcounted : s.Moves ((s.countStream h.stream StreamCounts.refuse).countRefusal r) :=
    (s.countStream_moves _ _).andThen (.counted _)
  cases tagged with
  | none => exact hcounted
  | some kind => exact hcounted.trans (State.request_moves _ (refusalEntry h.tag h.stream kind r) _ rfl)

theorem State.ingressReply_moves (s : State) (t : Tag) (code : Byte) (status : Status) :
    s.Moves (s.ingressReply t code status) :=
  s.request_moves (mgmtReplyEntry t code status []) _ rfl

theorem State.failedPayload_moves (s : State) (h : Header) : s.Moves (s.failedPayload h) := by
  unfold State.failedPayload
  split
  · split
    · exact s.ingressReply_moves _ _ _
    · exact .refl s
  · split
    · exact .refl s
    · split
      · exact s.refuse_moves _ _ _
      · exact .refl s
  · exact .refl s

theorem State.offerCommand_moves (s : State) (c : MgmtCommand) : s.Moves (s.offerCommand c) := by
  unfold State.offerCommand
  split
  · exact s.lose_moves _
  next hfree =>
    split
    next hroom => exact State.Moves.one (.accepted c hfree hroom)
    next =>
      have hcounted : s.Moves (s.withRet { s.ret with counts := s.ret.counts.mgmtLost }) :=
        State.Moves.one (.noted _ rfl rfl rfl)
      exact hcounted.andThen (.joined _ rfl hfree)

theorem State.takeMgmt_moves (s : State) (h : Header) (payload : List Byte) :
    s.Moves (s.takeMgmt h payload) := by
  unfold State.takeMgmt
  split
  · exact s.offerCommand_moves _
  · exact s.ingressReply_moves _ _ _

/-- R40: the bank that a commit makes active is the staged one. -/
theorem StreamTable.commitStaged_from (x : StreamTable) : x.commitStaged.From x :=
  fun _ => ⟨.inr rfl, .inr (.inl rfl)⟩

theorem State.examineCommit_moves (s : State) (kind : StreamKind) (h : Header) :
    s.Moves (s.examineCommit kind h) := by
  unfold State.examineCommit
  split
  · exact (State.Moves.one (.banked _ s.table.commitStaged_from)).trans (State.emit_moves _ _)
  · exact .refl s

/-- R49: what it takes for a packet to be admitted. -/
theorem State.verdict_granted {s : State} {kind : StreamKind} {h : Header} {payload : List Byte}
    {entry : StreamEntry} {members : PortSet} {targets : List PortPieces}
    (hv : s.verdict kind h payload entry = .granted members targets) :
    ∃ out fields, entry = .on members out fields
      ∧ headRefusal kind h payload members fields (s.tagHeld h.tag) = none
      ∧ targets = s.sliceFor kind h payload members out fields ∧ targets ≠ []
      ∧ ∀ x ∈ targets, (s.port x.port).hasRoom x.pieces = true := by
  unfold State.verdict at hv
  split at hv
  · cases hv
  next m out fields =>
    split at hv
    · cases hv
    next hhead =>
      rcases s.roomVerdict_cases kind m (s.sliceFor kind h payload m out fields) with
        ⟨-, hroom⟩ | ⟨hne, hall, hroom⟩ | ⟨-, -, hroom⟩ <;> rw [hroom] at hv
      · split at hv <;> cases hv
      · cases hv
        exact ⟨out, fields, rfl, hhead, rfl, hne, hall⟩
      · cases hv

theorem State.classifyStream_moves (s : State) (kind : StreamKind) (h : Header) (payload : List Byte) :
    s.Moves (s.classifyStream kind h payload) := by
  refine (s.examineCommit_moves kind h).trans ?_
  change (s.examineCommit kind h).Moves ((s.examineCommit kind h).applyVerdict h (kind.tagged h) _)
  generalize s.examineCommit kind h = u
  cases hv : u.verdict kind h payload (u.table.lookup h.stream) with
  | refused reason => exact u.refuse_moves _ _ _
  | unmapped => exact u.countStream_moves _ _
  | granted members targets =>
    obtain ⟨out, fields, hentry, hhead, rfl, hne, hroom⟩ := State.verdict_granted hv
    exact State.Moves.one (.linked <| .admitted kind h payload members out fields hentry hhead hne hroom)

theorem State.classify_moves (s : State) (h : Header) (payload : List Byte) :
    s.Moves (s.classify h payload) := by
  have hkind : s.Moves s.kindError := State.Moves.one (.upstreamCounted _)
  unfold State.classify
  split
  · exact hkind
  · split
    · exact s.takeMgmt_moves h payload
    · exact hkind
  · split
    · exact hkind
    · exact s.classifyStream_moves _ h payload

/-! ### The upstream link -/

theorem State.truncatePacket_moves (s : State) (cut : List Byte) : s.Moves (s.truncatePacket cut) := by
  have hcount : s.Moves s.countTruncated := State.Moves.one (.upstreamCounted _)
  unfold State.truncatePacket
  split
  · exact hcount.trans (State.failedPayload_moves _ _)
  · split
    · exact .refl s
    · exact hcount

@[simp] theorem State.failedPayload_upstream (s : State) (h : Header) :
    (s.failedPayload h).upstream = s.upstream := by
  have := congrArg State.upstream (s.failedPayload_withUpstream h s.upstream)
  exact this

theorem State.truncatePacket_direction (s : State) (cut : List Byte) :
    (s.truncatePacket cut).upstream.direction = s.upstream.direction := by
  unfold State.truncatePacket
  split
  · rw [State.failedPayload_upstream]; rfl
  · split <;> rfl

/-- A burst boundary of the host: the packet in progress is truncated, and the receiver is reframed. -/
theorem State.boundary_moves {s : State} (hd : s.upstream.direction = .follower) (cut : List Byte)
    (rx : RxState) : s.Moves ((s.truncatePacket cut).setRx rx) :=
  (s.truncatePacket_moves cut).andThen (.framed rx ((s.truncatePacket_direction cut).trans hd))

theorem State.openHostBurst_moves (s : State) (cut : List Byte) : s.Moves (s.openHostBurst cut) := by
  unfold State.openHostBurst
  split
  next hd _ => exact State.boundary_moves hd cut _
  next hd _ => exact State.Moves.one (.framed _ hd)
  next hd _ => exact State.Moves.one (.framed _ hd)
  next => exact .refl s

theorem State.closeHostBurst_moves (s : State) (cut : List Byte) : s.Moves (s.closeHostBurst cut) := by
  unfold State.closeHostBurst
  split
  next hd _ => exact State.boundary_moves hd cut _
  next hd _ => exact State.Moves.one (.framed _ hd)
  next => exact .refl s
  next => exact .refl s

/-- R11: a good header has a Length of at most 4096. -/
theorem judgeHeader_length {bytes : List Byte} {h : Header} (hj : judgeHeader bytes = some h) :
    h.length ≤ Config.maxLength := by
  unfold judgeHeader at hj
  split at hj
  · simp only [Option.ite_none_right_eq_some, Option.some.injEq] at hj
    obtain ⟨⟨-, hlen, -⟩, rfl⟩ := hj
    exact hlen
  · cases hj

theorem State.headerArrived_moves (s : State) (header : List Byte) : s.Moves (s.headerArrived header) := by
  unfold State.headerArrived
  split
  next hd hr _ =>
    split
    · unfold State.takeHeader
      split
      next h hj =>
        unfold State.goodHeader
        split
        · exact s.classify_moves h []
        next hlen =>
          exact State.Moves.one (.headerTaken h hd hr ⟨Nat.pos_of_ne_zero hlen, judgeHeader_length hj⟩)
      next => exact (State.Moves.one (.upstreamCounted _)).andThen (.framed _ hd)
    · exact .refl s
  next => exact .refl s

theorem State.packetArrived_moves (s : State) (payload : List Byte) (check : Half) :
    s.Moves (s.packetArrived payload check) := by
  unfold State.packetArrived
  split
  next h hd _ _ =>
    have hframed : s.Moves (s.setRx .inBurst) := State.Moves.one (.framed _ hd)
    split
    · unfold State.payloadArrived
      split
      · exact hframed.trans (State.classify_moves _ h payload)
      · exact (hframed.andThen (.upstreamCounted _)).trans (State.failedPayload_moves _ h)
    · exact .refl s
  next => exact .refl s

theorem State.strayHostData_moves (s : State) : s.Moves s.strayHostData := by
  unfold State.strayHostData
  split
  next hd _ => exact (State.Moves.one (.upstreamCounted _)).andThen (.framed _ hd)
  next => exact .refl s

/-- R21: a token that is taken in RESTING, and is a token error in a burst. -/
theorem State.onHostToken_moves (s : State) {act : State → State}
    (hact : s.upstream.direction = .follower → s.upstream.rx = .resting → s.Moves (act s)) :
    s.Moves (s.onHostToken act) := by
  unfold State.onHostToken
  split
  next hd hr => exact hact hd hr
  next => exact State.Moves.one (.upstreamCounted _)
  next => exact State.Moves.one (.upstreamCounted _)
  next => exact .refl s

theorem State.wrongHostToken_moves (s : State) (code : Byte) : s.Moves (s.wrongHostToken code) := by
  refine s.onHostToken_moves fun _ _ => ?_
  split
  · exact .refl s
  · exact State.Moves.one (.upstreamCounted _)

theorem State.hostCollision_moves (s : State) : s.Moves s.hostCollision := by
  unfold State.hostCollision
  split
  · exact (State.Moves.one (.upstreamCounted _)).andThen .turnEnded
  · exact .refl s

theorem State.onTurn_moves (s : State) (phase : TurnPhase) {f : Turn → State}
    (hf : ∀ x, s.upstream.direction = .holder → s.upstream.turn = some x → x.phase = phase →
      s.Moves (f x)) : s.Moves (s.onTurn phase f) := by
  unfold State.onTurn
  split
  next x hd hx =>
    split
    next hp => exact hf x hd hx hp
    next => exact .refl s
  next => exact .refl s

theorem State.headSent_moves {s : State} {x : Turn} (hd : s.upstream.direction = .holder)
    (hx : s.upstream.turn = some x) (hp : x.phase = .entry) : s.Moves (s.headSent x) := by
  unfold State.headSent
  split
  next e rest he => exact State.Moves.one (.entrySent x e rest hd hx hp he)
  next => exact .refl s

/-! ### The tile links -/

theorem State.setPort_moves {s : State} {p : PortId} {x : Port} (h : (s.port p).Move (s.wanted p) x) :
    s.Moves (s.setPort p x) := State.Moves.one (.linked <| .ported p x h)

/-- Writing a port and judging it at once is one write. -/
theorem State.judgePort_setPort (s : State) (p : PortId) (x : Port) :
    (s.setPort p x).judgePort p = s.setPort p (x.judge (s.wanted p)) := by
  simp only [State.judgePort, State.setPort_port_same, State.setPort_wanted, State.setPort_setPort]

theorem State.pieceSent_moves (s : State) (p : PortId) : s.Moves (s.pieceSent p) := by
  unfold State.pieceSent
  split
  next wire head rest hp ht hq =>
    rw [State.judgePort_setPort]
    exact State.setPort_moves (.sent wire head rest hp ht hq)
  next => exact .refl s

theorem State.answerPassSent_moves (s : State) (p : PortId) : s.Moves (s.answerPassSent p) := by
  unfold State.answerPassSent
  split
  next a hp ht ha => exact State.Moves.one (.linked <| .exchangeOpened p a hp ht ha)
  next d hp ht => exact State.setPort_moves (.passEnded d hp (.inl ht))
  next => exact .refl s

theorem State.watchPassSent_moves (s : State) (p : PortId) : s.Moves (s.watchPassSent p) := by
  unfold State.watchPassSent
  split
  next hp ht => exact State.setPort_moves (.watchOpened hp ht)
  next d hp ht => exact State.setPort_moves (.passEnded d hp (.inr ht))
  next => exact .refl s

/-- What a port does with a packet, a framing symbol or a token of its tile, its exchange open: fields
that no other block reads. -/
theorem Port.Move.received_of_exchange {w : Bool} {x : Port} {e d : Exchange} (hx : x.receives = true)
    (he : x.exchange = some e) (hd : d.tag = e.tag ∧ d.answers = e.answers ∧ d.orphan = e.orphan) :
    x.Move w { x with exchange := some d } := by
  obtain ⟨htag, hanswers, horphan⟩ := hd
  have h := Port.Move.received (wanted := w) (fun a => { d with
    tag := a.tag, answers := a.answers, orphan := a.orphan }) x.rx x.counts hx fun _ => ⟨rfl, rfl, rfl⟩
  have hsame : ({ d with tag := e.tag, answers := e.answers, orphan := e.orphan } : Exchange) = d := by
    rw [← htag, ← hanswers, ← horphan]
  simpa only [he, Option.map_some, hsame] using h

theorem Port.Move.reframed {w : Bool} {x : Port} (hx : x.receives = true) (rx : RxState) :
    x.Move w { x with rx := rx } := by
  have h := Port.Move.received (wanted := w) id rx x.counts hx fun _ => ⟨rfl, rfl, rfl⟩
  simpa only [Option.map_id, id_eq] using h

theorem Port.takeBad_move {w : Bool} {x : Port} (hx : x.receives = true) (rx : RxState) :
    x.Move w { x.takeBad with rx := rx } :=
  .received _ rx _ hx fun _ => ⟨rfl, rfl, rfl⟩

theorem Port.takeStray_move {w : Bool} (x : Port) : x.Move w x.takeStray := .counted _

/-- A change of the open exchange that keeps whose it is, or a stray answer. -/
theorem Port.exchangeTakes_move {w : Bool} {x : Port} (hx : x.receives = true) (fits : Exchange → Bool)
    (f : Exchange → Exchange)
    (hf : ∀ e, (f e).tag = e.tag ∧ (f e).answers = e.answers ∧ (f e).orphan = e.orphan) :
    x.Move w (x.exchangeTakes fits f) := by
  unfold Port.exchangeTakes
  split
  next e he =>
    split
    · exact Port.Move.received_of_exchange hx he (hf e)
    · exact x.takeStray_move
  next => exact x.takeStray_move

theorem Exchange.takeReply_keeps (e : Exchange) (data : List Byte) :
    (e.takeReply data).tag = e.tag ∧ (e.takeReply data).answers = e.answers
      ∧ (e.takeReply data).orphan = e.orphan := by
  unfold Exchange.takeReply
  split
  · split <;> exact ⟨rfl, rfl, rfl⟩
  · exact ⟨rfl, rfl, rfl⟩
  · exact ⟨rfl, rfl, rfl⟩

/-- Any judgement of a packet, by each of the four rows. -/
theorem Port.takeVerdict_move {w : Bool} {x : Port} (hx : x.receives = true) (v : TileVerdict) :
    x.Move w (x.takeReplyVerdict v) ∧ x.Move w (x.takeFaultVerdict v)
      ∧ x.Move w (x.takeBadVerdict v) ∧ x.Move w (x.takeStrayVerdict v) := by
  have hsame : x.Move w x := .counted x.counts
  refine ⟨?reply, ?fault, ?bad, ?stray⟩ <;> cases v
  case reply.reply tag data => exact Port.exchangeTakes_move hx _ _ fun e => e.takeReply_keeps data
  case fault.fault tag word => exact Port.exchangeTakes_move hx _ _ fun _ => ⟨rfl, rfl, rfl⟩
  case bad.badHeader => exact Port.takeBad_move hx _
  case bad.badPacket => exact Port.takeBad_move hx _
  case stray.stray => exact x.takeStray_move
  all_goals exact hsame

theorem State.onTilePacket_moves (s : State) (p : PortId) (packet : TilePacket)
    {f : TileVerdict → Port → Port}
    (hf : (s.port p).receives = true → ∀ v, (s.port p).Move (s.wanted p) (f v (s.port p))) :
    s.Moves (s.onTilePacket p packet f) := by
  simp only [State.onTilePacket, State.inTileBurst]
  split
  · split
    next h => exact State.setPort_moves (hf (Bool.and_eq_true_iff.1 h).1 _)
    next => exact .refl s
  · exact .refl s

theorem State.onTileToken_moves (s : State) (p : PortId) {act : State → State}
    (hact : (s.port p).receives = true → s.Moves (act s)) : s.Moves (s.onTileToken p act) := by
  unfold State.onTileToken
  split
  next h =>
    split
    · exact hact h
    · exact State.setPort_moves (Port.takeStray_move _)
    · exact State.setPort_moves (Port.takeStray_move _)
  next => exact .refl s

theorem State.whileReceiving_moves (s : State) (p : PortId) {f : Port → Port}
    (hf : (s.port p).receives = true → (s.port p).Move (s.wanted p) (f (s.port p))) :
    s.Moves (s.whileReceiving p f) := by
  unfold State.whileReceiving
  split
  next h => exact State.setPort_moves (hf h)
  next => exact .refl s

theorem Port.cutShort_move {w : Bool} {x : Port} (hx : x.receives = true) (cut : List Byte) (rx : RxState) :
    x.Move w { x.cutShort cut with rx := rx } := by
  unfold Port.cutShort
  split
  · exact Port.Move.reframed hx rx
  · exact Port.takeBad_move hx rx

theorem Port.openTileBurst_move {w : Bool} {x : Port} (hx : x.receives = true) (cut : List Byte) :
    x.Move w (x.openTileBurst cut) := by
  unfold Port.openTileBurst
  split
  next hr =>
    have hrx : (x.cutShort cut).rx = .inBurst := by
      unfold Port.cutShort
      split <;> exact hr
    have h := Port.cutShort_move (w := w) hx cut .inBurst
    rwa [← hrx] at h
  all_goals exact Port.Move.reframed hx _

theorem Port.closeTileBurst_move {w : Bool} {x : Port} (hx : x.receives = true) (cut : List Byte) :
    x.Move w (x.closeTileBurst cut) := by
  unfold Port.closeTileBurst
  split
  · exact Port.cutShort_move hx cut _
  · exact Port.Move.reframed hx _
  · exact .counted x.counts

theorem Port.takeStrayData_move {w : Bool} {x : Port} (hx : x.receives = true) :
    x.Move w x.takeStrayData := by
  unfold Port.takeStrayData
  split
  · exact Port.Move.reframed hx _
  all_goals exact .counted x.counts

theorem State.tilePassed_moves {s : State} {p : PortId} (hx : (s.port p).receives = true) :
    s.Moves (s.tilePassed p) := by
  unfold State.tilePassed
  split
  next e he => exact State.Moves.one (.linked <| .exchangeEnded p e hx he)
  next => exact .refl s

theorem State.tileTokenError_moves (s : State) (p : PortId) (code : Byte) :
    s.Moves (if tileMaySend code then s else s.setPort p (s.port p).takeStray) := by
  split
  · exact .refl s
  · exact State.setPort_moves (Port.takeStray_move _)

theorem State.tileCollided_moves (s : State) (p : PortId) : s.Moves (s.tileCollided p) := by
  unfold State.tileCollided
  split
  next hh hs =>
    split
    next hd => exact State.setPort_moves (.collidedDown hh hd)
    next hd => exact State.Moves.one (.linked <| .collided p hh hs (by simpa using hd))
  next => exact .refl s

/-! ### Rounds of the sync groups -/

theorem State.roundEnds_moves (s : State) (g : GroupId) : s.Moves (s.roundEnds g) := by
  rw [← State.completeRound_eq]
  refine (s.emit_moves _).trans (State.setGroup_moves ?_)
  refine SyncGroup.Move.emptied _ _ _ _ ?_ (.inr (Nat.mod_lt _ (by decide)))
  change _ = (s.group g).mode ∨ _
  cases (s.group g).mode <;> simp

theorem State.judgeRound_moves (s : State) (g : GroupId) : s.Moves (s.judgeRound g) := by
  rcases s.judgeRound_cases g with ⟨_, hround⟩ | ⟨_, hround⟩ <;> rw [hround]
  · exact s.roundEnds_moves g
  · exact .refl s

theorem State.armedSync_moves {s : State} {g : GroupId} {p : PortId} (ha : (s.group g).armed = true)
    (hp : PortSet.has (s.group g).members p = true) : s.Moves (s.armedSync g p) := by
  unfold State.armedSync
  split
  · exact State.setGroup_moves (.counted _ _ _)
  · exact (State.setGroup_moves (.reported p ha hp)).trans (State.judgeRound_moves _ g)

theorem State.takeSync_moves (s : State) (p : PortId) : s.Moves (s.takeSync p) := by
  have hunwatched : s.Moves s.countUnwatched := State.Moves.one (.synced _ fun _ => .refl _)
  unfold State.takeSync
  split
  next g hg =>
    split
    next ha => exact State.armedSync_moves ha (State.has_of_groupOf hg)
    next => exact hunwatched
  next => exact hunwatched

theorem State.windowExpired_moves (s : State) (g : GroupId) : s.Moves (s.windowExpired g) := by
  unfold State.windowExpired
  split
  · exact (s.emit_moves _).trans
      (State.setGroup_moves (.emptied _ _ _ _ (.inl rfl) (.inl rfl)))
  · exact .refl s

/-! ### The timers of a port and of a record, and the CLEAR -/

theorem State.answerExpired_moves (s : State) (p : PortId) : s.Moves (s.answerExpired p) := by
  unfold State.answerExpired
  split
  next n hp hn => exact State.Moves.one (.linked <| .timedOut p n hp hn)
  next => exact .refl s

theorem State.seizeDone_moves (s : State) (p : PortId) : s.Moves (s.seizeDone p) := by
  unfold State.seizeDone
  split
  next n hs => exact State.setPort_moves (.seizeCompleted n hs)
  next => exact .refl s

theorem State.deadlineExpired_moves (s : State) (t : Tag) : s.Moves (s.deadlineExpired t) := by
  rcases s.onOpenRecord_cases t (fun x => match x.deadline with
      | some _ => s.expireRecord t x
      | none   => s) with ⟨x, hx, ho, h⟩ | ⟨_, h⟩
  · refine (congrArg s.Moves (show s.deadlineExpired t = _ from h)).mpr ?_
    split
    · exact State.Moves.one (.linked <| .expired t x hx ho)
    · exact .refl s
  · exact (congrArg s.Moves (show s.deadlineExpired t = s from h)).mpr (.refl s)

@[simp] theorem State.deferredDone_port (s : State) (b : Byte) (p : PortId) :
    (s.deferredDone b).port p = s.port p := by
  unfold State.deferredDone
  split <;> rfl

@[simp] theorem State.deferredDone_wanted (s : State) (b : Byte) (p : PortId) :
    (s.deferredDone b).wanted p = s.wanted p := by
  unfold State.deferredDone
  split <;> rfl

/-- R102: once an owed RESTART is answered, the port owes no RESTART, and nothing else of it changed. -/
theorem State.answerRestart_port (s : State) (p : PortId) (d : Destination) :
    ((s.answerRestart p d).port p).owed ≠ .restart
      ∧ { (s.answerRestart p d).port p with owed := (s.port p).owed } = s.port p := by
  unfold State.answerRestart
  split
  · rw [State.deferredDone_port, State.setPort_port_same]
    exact ⟨by simp, rfl⟩
  next h => exact ⟨h, rfl⟩

theorem State.answerRestart_moves (s : State) (p : PortId) (d : Destination) :
    s.Moves (s.answerRestart p d) := by
  unfold State.answerRestart
  split
  next h => exact State.Moves.one (.restartAnswered p _ h)
  next => exact .refl s

theorem State.arrive_moves {s : State} {p : PortId} {d : Destination}
    (hp : (s.port p).phase = .clearing d) (ht : (s.port p).tx = .clear)
    (ho : (s.port p).owed ≠ .restart) : s.Moves (s.arrive p d) := by
  cases d with
  | ready =>
    simp only [State.arrive, State.judgePort_setPort]
    exact State.setPort_moves (.cleared hp ht ho)
  | down c => exact State.Moves.one (.wentDown p c hp ht ho)

theorem State.clearingDone_moves (s : State) (p : PortId) : s.Moves (s.clearingDone p) := by
  unfold State.clearingDone
  split
  next d hp ht =>
    obtain ⟨howed, hsame⟩ := s.answerRestart_port p d
    refine (s.answerRestart_moves p d).trans (State.arrive_moves ?_ ?_ howed)
    · rw [← hp, ← hsame]
    · rw [← ht, ← hsame]
  next => exact .refl s

end Sys2Proof.Machine

/-! SUPPORT. The management rows as runs of moves; every command is one. -/

namespace Sys2Proof.Machine

/-! ### Taking and answering -/

/-- A management row carries out the agent's next command, or leaves the state as it is. -/
theorem State.execute_moves (s : State) (name : CommandName) {run : MgmtCommand → State → State}
    (hrun : ∀ c rest, s.offers c rest → commandName c.payload = name →
      s.Moves (run c (s.withAgent { queue := rest, inExecution := none }))) :
    s.Moves (s.execute name run) := by
  by_cases hq : s.agent.inExecution ≠ none ∨ s.agent.queue = []
  · rw [State.execute_of_none hq]
    exact .refl s
  · obtain ⟨hnone, hqueue⟩ := not_or.1 hq
    obtain ⟨c, rest, hqueue⟩ := List.exists_cons_of_ne_nil hqueue
    have h : s.offers c rest := ⟨not_not.1 hnone, hqueue⟩
    rw [State.execute_of_offers h]
    split
    next hname => exact hrun c rest h hname
    next => exact .refl s

/-- The moves of a command come first, its answer last. -/
theorem State.Moves.taken {s u : State} (h : s.Moves u) {c : MgmtCommand} {rest : List MgmtCommand}
    (ho : u.offers c rest) (status : Byte) (result : List Byte) : s.Moves (u.taken c rest status result) :=
  h.andThen (.answered c rest status result ho)

section
variable {s : State} {c : MgmtCommand} {rest : List MgmtCommand}

/-- R165: bad arguments are answered, and good ones carried out. -/
theorem withArgs_moves {α : Type} (ho : s.offers c rest) (args : Option α) {run : α → State}
    (hrun : ∀ a, args = some a → s.Moves (run a)) :
    s.Moves (withArgs c args (s.withAgent { queue := rest, inExecution := none }) run) := by
  rcases withArgs_cases c args (s.withAgent { queue := rest, inExecution := none }) run with
    ⟨-, h⟩ | ⟨a, ha, h⟩ <;> rw [h]
  · exact (State.Moves.refl s).taken ho 3 []
  · exact hrun a ha

/-- R43: a change of the banks, turned away while a commit is pending. -/
theorem unlessPending_moves (ho : s.offers c rest) {run : State} (hrun : s.Moves run) :
    s.Moves (unlessPending c (s.withAgent { queue := rest, inExecution := none }) run) := by
  rw [unlessPending_eq]
  split
  · exact (State.Moves.refl s).taken ho 2 []
  · exact hrun

/-- A change of the banks and its answer. -/
theorem State.withTable_taken_moves (ho : s.offers c rest) {x : StreamTable} (hx : x.From s.table)
    (status : Byte) : s.Moves ((s.withTable x).taken c rest status []) :=
  (State.Moves.one (.banked x hx)).taken ho status []

end

/-! ### The stream table -/

theorem StreamTable.from_self (x : StreamTable) (commit : CommitState) :
    ({ x with commit := commit } : StreamTable).From x :=
  fun _ => ⟨.inl rfl, .inr (.inl rfl)⟩

theorem StreamTable.copied_from (x : StreamTable) : ({ x with staged := x.active } : StreamTable).From x :=
  fun _ => ⟨.inl rfl, .inl rfl⟩

theorem StreamTable.taken_from (x : StreamTable) : ({ x with active := x.staged } : StreamTable).From x :=
  fun _ => ⟨.inr rfl, .inr (.inl rfl)⟩

/-- R29: an entry that is taken meets the conditions of R29. -/
theorem judgeEntry_valid {entry : List Byte} {e : StreamEntry} (h : judgeEntry entry = some e) :
    e.valid = true := by
  unfold judgeEntry at h
  split at h
  · cases h; rfl
  · split at h
    · simp only [Option.ite_none_right_eq_some, Bool.and_eq_true, Option.some.injEq] at h
      obtain ⟨⟨-, hvalid⟩, rfl⟩ := h
      exact hvalid
    · cases h
  · cases h

theorem StreamTable.stage_from (x : StreamTable) (id : Fin 31) {e : StreamEntry} (he : e.valid = true) :
    (x.stage id e).From x := by
  intro i
  refine ⟨.inl rfl, .inr ?_⟩
  by_cases hi : id.val = i.val
  · exact .inr (by simp [StreamTable.stage, ← hi, he])
  · exact .inl (by simp [StreamTable.stage, hi])

/-! ### The sync groups -/

/-- R157: a group with settings that leave it armed, and no member of it present. -/
def State.goesOff (s : State) (a : SyncSettings) : Bool :=
  a.mode != .off && (s.presentMembers a.members).isEmpty

/-- Everything a SYNC-SET does to its group and the return queue. -/
theorem State.setSyncGroup_eq (s : State) (a : SyncSettings) :
    s.setSyncGroup a
      = if s.goesOff a then
          (s.emit (.groupOff a.group)).setGroup a.group
            { (s.group a.group).configured a with mode := .off }
        else s.setGroup a.group ((s.group a.group).configured a) := by
  simp only [State.setSyncGroup, State.setGroup_group_same, State.setGroup_presentMembers]
  have harmed : ((s.group a.group).configured a).armed = (a.mode != .off) := rfl
  rw [harmed]
  change (if s.goesOff a = true then _ else _) = _
  split
  · simp only [State.groupOff, State.setGroup_group_same]
    exact (s.emit (.groupOff a.group)).setGroup_setGroup a.group _ _
  · rfl

/-- Telling the ports reads what they wish for, and no other part of the state before. -/
theorem State.tellWatches_congr (s : State) {b d : State} (h : ∀ p, b.wanted p = d.wanted p) :
    s.tellWatches b = s.tellWatches d := by
  have : b.tellWatch = d.tellWatch := by
    funext u p
    simp only [State.tellWatch, h]
  simp only [State.tellWatches, this]

theorem State.tellWatches_withAgent (s b : State) (x : Agent) :
    (s.withAgent x).tellWatches b = (s.tellWatches b).withAgent x := by
  have one (u : State) (p : PortId) : b.tellWatch (u.withAgent x) p = (b.tellWatch u p).withAgent x := by
    by_cases h : u.wanted p = b.wanted p
    · simp only [State.tellWatch, State.withAgent_wanted, h, if_true]
    · simp only [State.tellWatch, State.withAgent_wanted, h, if_false]
      rfl
  simp only [State.tellWatches]
  generalize allPorts = ps
  induction ps generalizing s with
  | nil => rfl
  | cons p ps ih => rw [List.foldl_cons, List.foldl_cons, one, ih]

theorem State.setSyncGroup_withAgent (s : State) (a : SyncSettings) (x : Agent) :
    (s.withAgent x).setSyncGroup a = (s.setSyncGroup a).withAgent x := by
  simp only [State.setSyncGroup_eq]
  change (if s.goesOff a = true then _ else _) = _
  split <;> rfl

@[simp] theorem State.emit_wanted (s : State) (e : HubEvent) (p : PortId) :
    (s.emit e).wanted p = s.wanted p := rfl

@[simp] theorem State.emit_group (s : State) (e : HubEvent) (g : GroupId) :
    (s.emit e).group g = s.group g := rfl

@[simp] theorem State.tellWatches_agent (s b : State) : (s.tellWatches b).agent = s.agent := by
  obtain ⟨_, h⟩ := s.tellWatches_keeps b
  rw [h]; rfl

@[simp] theorem State.setSyncGroup_agent (s : State) (a : SyncSettings) :
    (s.setSyncGroup a).agent = s.agent := by
  rw [State.setSyncGroup_eq]
  split <;> rfl

/-- R149: the offered members stand apart from those of the other groups. -/
theorem State.disjoint_of_not_bad {s : State} {a : SyncSettings} (h : s.syncSetBad a = false) :
    ∀ k, k ≠ a.group → (s.group k).members &&& a.members = 0 := by
  simp only [State.syncSetBad, Bool.or_eq_false_iff, State.takesMember, List.any_eq_false] at h
  intro k hk
  have hmem : k ∈ allGroups := by
    match k with
    | 0 | 1 | 2 | 3 => decide
  simpa [hk] using h.1 k hmem

/-- R157: a SYNC-SET with arguments in range, its answer aside. -/
theorem State.syncSet_moves {s : State} {a : SyncSettings} (hw : 1 ≤ a.window ∧ a.window ≤ 65535)
    (hbad : s.syncSetBad a = false) : s.Moves ((s.setSyncGroup a).tellWatches s) := by
  rw [State.setSyncGroup_eq]
  split
  · have hwanted (p : PortId) : s.wanted p = (s.emit (.groupOff a.group)).wanted p := rfl
    rewrite [State.tellWatches_congr _ hwanted]
    have hoff := State.Move.regrouped (s := s.emit (.groupOff a.group)) a .off hw
      (State.disjoint_of_not_bad hbad)
    rw [State.emit_group] at hoff
    exact (s.emit_moves _).andThen hoff
  · exact State.Moves.one (.regrouped a a.mode hw (State.disjoint_of_not_bad hbad))

theorem syncSetArgs_window {args : List Byte} {a : SyncSettings} (h : syncSetArgs args = some a) :
    1 ≤ a.window ∧ a.window ≤ 65535 := by
  unfold syncSetArgs at h
  split at h
  next w1 w0 =>
    split at h
    · simp only [Option.ite_none_right_eq_some, Option.some.injEq] at h
      obtain ⟨⟨-, hw⟩, rfl⟩ := h
      exact ⟨hw, by simp only [pair]; omega⟩
    · cases h
  · cases h

/-! ### The tile ports -/

theorem portSetArgs_inRange {args : List Byte} {a : PortSettings} (h : portSetArgs args = some a) :
    10 ≤ a.answerTimeout ∧ a.answerTimeout ≤ 50000 ∧ 1 ≤ a.failureLimit ∧ a.failureLimit ≤ 7 := by
  unfold portSetArgs at h
  split at h
  · split at h
    · simp only [Option.ite_none_right_eq_some, Option.some.injEq] at h
      obtain ⟨hr, rfl⟩ := h
      exact hr
    · cases h
  · cases h

/-- R185: the codes of the two commands that a port's notice answers. -/
theorem commandName_deferred {payload : List Byte} :
    (commandName payload = .portStop → commandCode payload = 0x09)
    ∧ (commandName payload = .portRestart → commandCode payload = 0x0A) := by
  unfold commandName
  constructor
  all_goals
    intro h
    split at h
    case h_6 => split at h <;> cases h
    all_goals try cases h
    next hcode => exact BitVec.eq_of_toNat_eq hcode

theorem portArg_eq {b : Byte} {p : PortId} (h : portArg b = some p) : b = byte p := by
  unfold portArg at h
  split at h
  · cases h
    exact (BitVec.ofNat_toNat 8 b).symm.trans (by simp [byte])
  · cases h

/-- R185: a command of one argument byte that names a port is its code and the number of that port. -/
theorem payload_of_onePort {c : MgmtCommand} {p : PortId} (h : onePort c.arguments = some p) :
    c.payload = [commandCode c.payload, byte p] := by
  unfold onePort at h
  split at h
  next b hb =>
    rw [← portArg_eq h]
    unfold MgmtCommand.arguments at hb
    cases hp : c.payload with
    | nil => simp [hp] at hb
    | cons x xs =>
      rw [hp, List.tail_cons] at hb
      rw [hb]; rfl
  · cases h

theorem runPortStop_moves {s : State} {c : MgmtCommand} {rest : List MgmtCommand}
    (ho : s.offers c rest) (hname : commandName c.payload = .portStop) :
    s.Moves (runPortStop c (s.withAgent { queue := rest, inExecution := none })) := by
  refine withArgs_moves ho _ fun p hp => ?_
  have hc : c.payload = [0x09, byte p] := by
    rw [← commandName_deferred.1 hname]
    exact payload_of_onePort hp
  have hheld : (s.port p).isDown = false → s.Moves ((s.held c rest).stopPort p) :=
    fun hd => State.Moves.one (.stopHeld c rest p ho hc hd)
  unfold State.stopCommand
  split
  next cause _ => exact (State.Moves.refl s).taken ho 0 [cause.code]
  all_goals
    next h =>
      refine hheld ?_
      change (s.port p).phase = _ at h
      simp only [Port.isDown, h]

theorem runPortRestart_moves {s : State} {c : MgmtCommand} {rest : List MgmtCommand}
    (ho : s.offers c rest) (hname : commandName c.payload = .portRestart) :
    s.Moves (runPortRestart c (s.withAgent { queue := rest, inExecution := none })) := by
  refine withArgs_moves ho _ fun p hp => ?_
  have hc : c.payload = [0x0A, byte p] := by
    rw [← commandName_deferred.2 hname]
    exact payload_of_onePort hp
  exact State.Moves.one (.restartHeld c rest p ho hc)

/-! ### The return queue and the counters -/

theorem returnSetArgs_inRange {args : List Byte} {a : ReturnSettings} (h : returnSetArgs args = some a) :
    1 ≤ a.budget ∧ a.budget ≤ 32 ∧ a.deadlineMs ≤ 1000 := by
  unfold returnSetArgs at h
  split at h
  · simp only [Option.ite_none_right_eq_some, Option.some.injEq] at h
    obtain ⟨⟨hlow, hhigh, -, hdeadline⟩, rfl⟩ := h
    exact ⟨hlow, hhigh, hdeadline⟩
  · cases h

theorem State.clearCounts_withAgent (s : State) (b : CounterBlock) (x : Agent) :
    (s.withAgent x).clearCounts b = (s.clearCounts b).withAgent x := by
  cases b <;> rfl

@[simp] theorem State.clearCounts_agent (s : State) (b : CounterBlock) :
    (s.clearCounts b).agent = s.agent := by
  cases b <;> rfl

theorem State.clearCounts_moves (s : State) (b : CounterBlock) : s.Moves (s.clearCounts b) := by
  cases b with
  | upstream => exact State.Moves.one (.upstreamCounted fun _ => .zero)
  | stream n => exact State.Moves.one (.counted _)
  | refusals => exact State.Moves.one (.counted _)
  | port p => exact State.setPort_moves (.counted _)
  | ret => exact State.Moves.one (.noted _ rfl rfl rfl)
  | sync =>
    refine State.Moves.one (.synced _ fun g => ?_)
    have : (forFour fun g => (s.sync.groups[g]).countsZero)[g] = (s.group g).countsZero :=
      forFour_getElem _ g
    rw [this]
    exact .counted _ _ _

/-! ### Every command -/

/-- A command that is answered and changes nothing else. -/
theorem State.execute_reply_moves {α : Type} (s : State) (name : CommandName)
    {args : MgmtCommand → Option α} {status : MgmtCommand → α → Status}
    {result : MgmtCommand → State → α → List Byte} :
    s.Moves (s.execute name fun c u => withArgs c (args c) u fun a =>
      u.reply c (status c a) (result c u a)) :=
  s.execute_moves name fun _ _ ho _ => withArgs_moves ho _ fun _ _ => (State.Moves.refl s).taken ho _ _

/-- A command that changes the stream table when no commit is pending. -/
theorem State.execute_table_moves {α : Type} (s : State) (name : CommandName)
    {args : MgmtCommand → Option α} {f : StreamTable → α → StreamTable} {status : Status}
    (hf : ∀ x a, (f x a).From x) :
    s.Moves (s.execute name fun c u => withArgs c (args c) u fun a =>
      unlessPending c u ((u.withTable (f u.table a)).reply c status [])) :=
  s.execute_moves name fun _ _ ho _ => withArgs_moves ho _ fun a _ =>
    unlessPending_moves ho ((State.Moves.one (.banked _ (hf s.table a))).taken ho _ _)

theorem runStageEntry_moves {s : State} {c : MgmtCommand} {rest : List MgmtCommand}
    (ho : s.offers c rest) :
    s.Moves (runStageEntry c (s.withAgent { queue := rest, inExecution := none })) := by
  refine withArgs_moves ho _ fun a _ => unlessPending_moves ho ?_
  split
  next e he => exact State.withTable_taken_moves ho (s.table.stage_from a.1 (judgeEntry_valid he)) 0
  next => exact (State.Moves.refl s).taken ho 4 []

theorem runCommitCancel_moves {s : State} {c : MgmtCommand} {rest : List MgmtCommand}
    (ho : s.offers c rest) :
    s.Moves (runCommitCancel c (s.withAgent { queue := rest, inExecution := none })) := by
  refine withArgs_moves ho _ fun _ _ => ?_
  split
  · exact State.withTable_taken_moves ho (s.table.from_self .none) 0
  · exact (State.Moves.refl s).taken ho 5 []

theorem runSyncSet_moves {s : State} {c : MgmtCommand} {rest : List MgmtCommand}
    (ho : s.offers c rest) :
    s.Moves (runSyncSet c (s.withAgent { queue := rest, inExecution := none })) := by
  refine withArgs_moves ho _ fun a ha => ?_
  split
  · exact (State.Moves.refl s).taken ho 3 []
  next hbad =>
    have hwanted (p : PortId) :
        (s.withAgent { queue := rest, inExecution := none }).wanted p = s.wanted p := rfl
    rewrite [State.setSyncGroup_withAgent, State.tellWatches_withAgent,
      State.tellWatches_congr _ hwanted, State.reply_of_taken]
    have hagent : ((s.setSyncGroup a).tellWatches s).offers c rest := by
      simpa only [State.offers, State.tellWatches_agent, State.setSyncGroup_agent] using ho
    have hgood : s.syncSetBad a = false := Bool.eq_false_iff.2 hbad
    have hmoves := State.syncSet_moves (syncSetArgs_window ha) hgood
    exact hmoves.taken hagent _ _

/-- Every command is a run of moves. -/
theorem exec_moves (i : Instr) (s : State) : ∃ t, exec i s = .next t ∧ s.Moves t := by
  have packet (p : PortId) (x : TilePacket) {f : TileVerdict → Port → Port}
      (hf : (s.port p).receives = true → ∀ v, (s.port p).Move (s.wanted p) (f v (s.port p))) :=
    s.onTilePacket_moves p x hf
  have receiving (p : PortId) {f : Port → Port}
      (hf : (s.port p).receives = true → (s.port p).Move (s.wanted p) (f (s.port p))) :=
    s.whileReceiving_moves p hf
  cases i with
  | reset => exact ⟨_, rfl, State.Moves.one .reset⟩
  | upstreamBurstOpen cut => exact ⟨_, rfl, s.openHostBurst_moves cut⟩
  | headerArrival header => exact ⟨_, rfl, s.headerArrived_moves header⟩
  | packetArrival payload check => exact ⟨_, rfl, s.packetArrived_moves payload check⟩
  | upstreamBurstClose cut => exact ⟨_, rfl, s.closeHostBurst_moves cut⟩
  | strayDataSymbol b => exact ⟨_, rfl, s.strayHostData_moves⟩
  | hostPass => exact ⟨_, rfl, s.onHostToken_moves fun hd hr => State.Moves.one (.turnStarted hd hr)⟩
  | hubClear => exact ⟨_, rfl, s.onHostToken_moves fun hd _ => State.Moves.one (.hubCleared hd)⟩
  | upstreamTokenError code => exact ⟨_, rfl, s.wrongHostToken_moves code⟩
  | upstreamCollision => exact ⟨_, rfl, s.hostCollision_moves⟩
  | roomSent =>
    exact ⟨_, rfl, s.onTurn_moves _ fun x hd hx hp => State.Moves.one (.roomSent x hd hx hp)⟩
  | entrySent => exact ⟨_, rfl, s.onTurn_moves _ fun _ hd hx hp => State.headSent_moves hd hx hp⟩
  | returnTurnPassSent => exact ⟨_, rfl, s.onTurn_moves _ fun _ _ _ _ => State.Moves.one .turnEnded⟩
  | pieceSent p => exact ⟨_, rfl, s.pieceSent_moves p⟩
  | exchangeOpen p => exact ⟨_, rfl, s.answerPassSent_moves p⟩
  | watchOpen p => exact ⟨_, rfl, s.watchPassSent_moves p⟩
  | replyArrival p x => exact ⟨_, rfl, packet p x fun hx v => (Port.takeVerdict_move hx v).1⟩
  | faultArrival p x => exact ⟨_, rfl, packet p x fun hx v => (Port.takeVerdict_move hx v).2.1⟩
  | ackToken p =>
    exact ⟨_, rfl, s.onTileToken_moves p fun hx =>
      State.setPort_moves (Port.exchangeTakes_move hx _ _ fun _ => ⟨rfl, rfl, rfl⟩)⟩
  | syncToken p => exact ⟨_, rfl, s.onTileToken_moves p fun _ => s.takeSync_moves p⟩
  | tilePass p => exact ⟨_, rfl, s.onTileToken_moves p State.tilePassed_moves⟩
  | tileBadPacket p x => exact ⟨_, rfl, packet p x fun hx v => (Port.takeVerdict_move hx v).2.2.1⟩
  | tileStrayPacket p x => exact ⟨_, rfl, packet p x fun hx v => (Port.takeVerdict_move hx v).2.2.2⟩
  | tileTokenError p code => exact ⟨_, rfl, s.onTileToken_moves p fun _ => s.tileTokenError_moves p code⟩
  | tileBurstOpen p cut => exact ⟨_, rfl, receiving p fun hx => Port.openTileBurst_move hx cut⟩
  | tileBurstClose p cut => exact ⟨_, rfl, receiving p fun hx => Port.closeTileBurst_move hx cut⟩
  | tileStrayData p b => exact ⟨_, rfl, receiving p Port.takeStrayData_move⟩
  | tileCollision p => exact ⟨_, rfl, s.tileCollided_moves p⟩
  | answerTimerExpiry p => exact ⟨_, rfl, s.answerExpired_moves p⟩
  | seizeComplete p => exact ⟨_, rfl, s.seizeDone_moves p⟩
  | clearSent p => exact ⟨_, rfl, s.clearingDone_moves p⟩
  | deadlineExpiry t => exact ⟨_, rfl, s.deadlineExpired_moves t⟩
  | syncWindowExpiry g => exact ⟨_, rfl, s.windowExpired_moves g⟩
  | info => exact ⟨_, rfl, s.execute_reply_moves _⟩
  | stageEntry => exact ⟨_, rfl, s.execute_moves _ fun _ _ ho _ => runStageEntry_moves ho⟩
  | stageOff => exact ⟨_, rfl, s.execute_table_moves _ fun x id => x.stage_from id rfl⟩
  | stageCopy => exact ⟨_, rfl, s.execute_table_moves _ fun x _ => x.copied_from⟩
  | readEntry => exact ⟨_, rfl, s.execute_reply_moves _⟩
  | commitNow => exact ⟨_, rfl, s.execute_table_moves _ fun x _ => x.taken_from⟩
  | commitAtFrame => exact ⟨_, rfl, s.execute_table_moves _ fun x _ => x.from_self _⟩
  | commitCancel => exact ⟨_, rfl, s.execute_moves _ fun _ _ ho _ => runCommitCancel_moves ho⟩
  | portSet =>
    exact ⟨_, rfl, s.execute_moves _ fun _ _ ho _ => withArgs_moves ho _ fun a ha =>
      (State.setPort_moves (.configured a (portSetArgs_inRange ha))).taken ho 0 []⟩
  | portStop => exact ⟨_, rfl, s.execute_moves _ fun _ _ => runPortStop_moves⟩
  | portRestart => exact ⟨_, rfl, s.execute_moves _ fun _ _ => runPortRestart_moves⟩
  | portRead => exact ⟨_, rfl, s.execute_reply_moves _⟩
  | syncSet => exact ⟨_, rfl, s.execute_moves _ fun _ _ ho _ => runSyncSet_moves ho⟩
  | syncRead => exact ⟨_, rfl, s.execute_reply_moves _⟩
  | returnSet =>
    exact ⟨_, rfl, s.execute_moves _ fun _ _ ho _ => withArgs_moves ho _ fun a ha =>
      (State.Moves.one (.configured a (returnSetArgs_inRange ha))).taken ho 0 []⟩
  | tagRead => exact ⟨_, rfl, s.execute_reply_moves _⟩
  | countersRead => exact ⟨_, rfl, s.execute_reply_moves _⟩
  | countersClear =>
    refine ⟨_, rfl, s.execute_moves _ fun _ _ ho _ => withArgs_moves ho _ fun b _ => ?_⟩
    rw [State.clearCounts_withAgent]
    exact (s.clearCounts_moves b).taken (by simpa [State.offers] using ho) 0 []
  | unknownCommand =>
    exact ⟨_, rfl, s.execute_moves _ fun _ _ ho _ => (State.Moves.refl s).taken ho 6 []⟩

/-- A step is one microsecond, or the taking of a command from the queue and a run of moves. What a
microsecond, the taking and every move keep, every step keeps. -/
theorem step_keeps {P : State → Prop} (htick : ∀ s : State, s.pending = [] → P s → P s.tick)
    (htaken : ∀ (s : State) (l : List Instr), P s → P (s.withPending l))
    (hmove : ∀ s t, State.Move s t → P s → P t) {s t : State} (hs : P s) (h : step s = .next t) : P t := by
  unfold step at h
  split at h
  next hnone =>
    cases h
    exact htick s hnone hs
  next i rest _ =>
    obtain ⟨u, hexec, hmoves⟩ := exec_moves i (s.withPending rest)
    cases hexec.symm.trans h
    exact hmoves.keeps hmove (htaken s rest hs)

end Sys2Proof.Machine

/-! SUPPORT. The blocks that a move leaves as they are. -/

namespace Sys2Proof.Machine

/-! ### The return queue grows by answers of records -/

/-- Answers of completed records join at the young end, and shared slots and settings stay as they are. -/
structure ReturnQueue.Grows (q r : ReturnQueue) : Prop where
  reserved : r.reserved = q.reserved
  budget : r.budget = q.budget
  entries : ∃ es, r.entries = q.entries ++ es ∧ ∀ e ∈ es, e.slot ≠ .shared

theorem ReturnQueue.Grows.refl (q : ReturnQueue) : q.Grows q := ⟨rfl, rfl, [], by simp⟩

theorem ReturnQueue.Grows.trans {q r u : ReturnQueue} (h : q.Grows r) (k : r.Grows u) : q.Grows u := by
  obtain ⟨es, hes, hslots⟩ := h.entries
  obtain ⟨fs, hfs, kslots⟩ := k.entries
  refine ⟨k.reserved.trans h.reserved, k.budget.trans h.budget, es ++ fs, by simp [hfs, hes], ?_⟩
  intro e he
  exact (List.mem_append.1 he).elim (hslots e) (kslots e)

theorem Transaction.completionEntries_slot (x : Transaction) (t : Tag) :
    ∀ e ∈ x.completionEntries t, e.slot = .replyOf t ∨ e.slot = .reportOf t := by
  rcases x.completionEntries_cases t with h | ⟨d, -, -, h⟩ <;> rw [h] <;>
    simp [Transaction.replyEntry, Transaction.reportEntry]

theorem Transaction.completionEntries_ne_nil (x : Transaction) (t : Tag) : x.completionEntries t ≠ [] := by
  rcases x.completionEntries_cases t with h | ⟨d, -, -, h⟩ <;> rw [h] <;> simp

/-- Everything completion makes of the return queue. -/
theorem ReturnQueue.joined_completion (q : ReturnQueue) (x : Transaction) (t : Tag) :
    q.joined (x.completionEntries t)
      = ({ q with entries := q.entries ++ x.completionEntries t }).judged := by
  obtain ⟨e, es, h⟩ := List.exists_cons_of_ne_nil (x.completionEntries_ne_nil t)
  rw [h, ReturnQueue.joined_eq]

theorem ReturnQueue.joined_grows (q : ReturnQueue) (x : Transaction) (t : Tag) :
    q.Grows (q.joined (x.completionEntries t)) := by
  rw [ReturnQueue.joined_completion]
  refine ⟨rfl, rfl, x.completionEntries t, rfl, fun e he => ?_⟩
  rcases x.completionEntries_slot t e he with h | h <;> rw [h] <;> simp

/-! ### Operations of the ports and the records -/

/-- Only tile ports, records, the reserved part of the return queue and the counts of ingress differ. -/
structure State.Local (s t : State) : Prop where
  upstream : t.upstream = s.upstream
  table : t.table = s.table
  sync : t.sync = s.sync
  agent : t.agent = s.agent
  pending : t.pending = s.pending
  deadlineMs : t.txns.deadlineMs = s.txns.deadlineMs
  ret : s.ret.Grows t.ret

theorem State.Local.refl (s : State) : s.Local s := ⟨rfl, rfl, rfl, rfl, rfl, rfl, .refl _⟩

theorem State.Local.trans {s t u : State} (h : s.Local t) (k : t.Local u) : s.Local u :=
  ⟨k.upstream.trans h.upstream, k.table.trans h.table, k.sync.trans h.sync, k.agent.trans h.agent,
    k.pending.trans h.pending, k.deadlineMs.trans h.deadlineMs, h.ret.trans k.ret⟩

theorem State.withPorts_local (s : State) (ports : Vector Port 4) : s.Local (s.withPorts ports) :=
  ⟨rfl, rfl, rfl, rfl, rfl, rfl, .refl _⟩

theorem State.setPort_local (s : State) (p : PortId) (x : Port) : s.Local (s.setPort p x) :=
  s.withPorts_local _

theorem State.setRecord_local (s : State) (t : Tag) (x : Option Transaction) :
    s.Local (s.setRecord t x) :=
  ⟨rfl, rfl, rfl, rfl, rfl, rfl, .refl _⟩

theorem State.complete_local (s : State) (t : Tag) (x : Transaction) : s.Local (s.complete t x) :=
  ⟨rfl, rfl, rfl, rfl, rfl, rfl, s.ret.joined_grows x t⟩

theorem State.storeOrComplete_local (s : State) (t : Tag) (x : Transaction) :
    s.Local (s.storeOrComplete t x) := by
  rcases s.storeOrComplete_cases t x with ⟨_, h⟩ | ⟨_, h⟩ <;> rw [h]
  · exact s.complete_local t x
  · exact s.setRecord_local t _

theorem State.onOpenRecord_local (s : State) (t : Tag) {f : Transaction → State}
    (hf : ∀ x, s.Local (f x)) : s.Local (s.onOpenRecord t f) := by
  rcases s.onOpenRecord_cases t f with ⟨x, _, _, h⟩ | ⟨_, h⟩ <;> rw [h]
  · exact hf x
  · exact .refl s

theorem State.handNotices_local (s : State) (p : PortId) (ns : List Notice) :
    s.Local (s.handNotices p ns) := by
  induction ns generalizing s with
  | nil => exact .refl s
  | cons n ns ih =>
    have hnotice : s.Local (s.takeNotice p n) :=
      s.onOpenRecord_local n.tag fun _ => s.storeOrComplete_local _ _
    exact hnotice.trans (ih _)

theorem State.handResult_local (s : State) (p : PortId) (e : Exchange) : s.Local (s.handResult p e) := by
  unfold State.handResult
  split
  · exact s.onOpenRecord_local e.tag fun _ => s.storeOrComplete_local _ _
  · exact .refl s

theorem State.failPort_local (s : State) (p : PortId) (f : Port → Port) : s.Local (s.failPort p f) :=
  (s.setPort_local p _).trans (State.handNotices_local _ p _)

theorem State.stopPort_local (s : State) (p : PortId) : s.Local (s.stopPort p) := by
  simp only [State.stopPort]
  split
  · exact (s.setPort_local p _).trans (State.handNotices_local _ p _)
  · exact s.setPort_local p _

theorem State.restartPort_local (s : State) (p : PortId) : s.Local (s.restartPort p) := by
  simp only [State.restartPort]
  split
  · exact (s.setPort_local p _).trans (State.handNotices_local _ p _)
  · exact s.setPort_local p _

theorem State.openExchange_local (s : State) (p : PortId) (a : PendingAnswer) :
    s.Local (s.openExchange p a) := by
  simp only [State.openExchange]
  split
  · exact (s.setPort_local p _).trans (State.onOpenRecord_local _ _ fun _ => State.setRecord_local _ _ _)
  · exact s.setPort_local p _

theorem State.admitPacket_local (s : State) (h : Header) (tagged : Option RequestKind)
    (members : PortSet) (targets : List PortPieces) : s.Local (s.admitPacket h tagged members targets) := by
  simp only [State.admitPacket]
  obtain ⟨ports, happend⟩ := s.appendAll_keeps (targets.map (PortPieces.linked tagged h.tag))
  have hcreate (u : State) (ps : List PortId) : u.Local (u.createFor h tagged members ps) := by
    cases tagged with
    | none => exact .refl u
    | some _ => exact u.setRecord_local _ _
  have hcount (u : State) : u.Local (u.countStream h.stream StreamCounts.accept) :=
    ⟨rfl, rfl, rfl, rfl, rfl, rfl, .refl _⟩
  have hjudge (u : State) (ps : List PortId) : u.Local (ps.foldl State.judgePort u) := by
    obtain ⟨_, hu⟩ := u.judgeAll_keeps ps
    rw [hu]
    exact u.withPorts_local _
  rw [happend]
  exact (s.withPorts_local ports).trans ((hcreate _ _).trans ((hcount _).trans (hjudge _ _)))

theorem State.expirePorts_local (s : State) (t : Tag) (parts : List PortRecord) :
    s.Local (s.expirePorts t parts) := by
  induction parts generalizing s with
  | nil => exact .refl s
  | cons r rs ih => exact (s.setPort_local r.port _).trans (ih _)

theorem State.expireRecord_local (s : State) (t : Tag) (x : Transaction) : s.Local (s.expireRecord t x) :=
  (s.expirePorts_local t x.parts).trans (State.complete_local _ _ _)

/-- What a move of the ports and their transactions leaves as it is. -/
theorem State.LinkMove.keeps {s t : State} (h : s.LinkMove t) : s.Local t := by
  cases h with
  | ported p x => exact s.setPort_local p x
  | exchangeOpened p a => exact s.openExchange_local p a
  | exchangeEnded p e =>
    exact ((s.setPort_local p _).trans (State.handResult_local _ p e)).trans (State.setPort_local _ p _)
  | timedOut p => exact s.failPort_local p _
  | collided p => exact s.failPort_local p _
  | admitted kind h _ members => exact s.admitPacket_local h (kind.tagged h) members _
  | expired t x => exact s.expireRecord_local t x

/-! ### Notices to the agent, and ports that go DOWN -/

theorem State.deferredDone_keeps (s : State) (b : Byte) :
    (s.deferredDone b).upstream = s.upstream ∧ (s.deferredDone b).table = s.table
      ∧ (s.deferredDone b).ports = s.ports ∧ (s.deferredDone b).txns = s.txns
      ∧ (s.deferredDone b).sync = s.sync ∧ (s.deferredDone b).pending = s.pending := by
  unfold State.deferredDone
  split <;> exact ⟨rfl, rfl, rfl, rfl, rfl, rfl⟩

/-- R103: a port that goes DOWN has told the groups, and its owed STOP is answered after that. -/
def State.toldDown (s : State) (p : PortId) (c : Cause) : State :=
  ((s.setPort p { s.port p with phase := .down c, tx := .idle }).requestsEvent
    [5, byte p, c.code]).memberDown p

theorem State.goDown_eq (s : State) (p : PortId) (c : Cause) :
    s.goDown p c = if (s.port p).owed = .stop then
        ((s.toldDown p c).setPort p { (s.toldDown p c).port p with owed := .none }).deferredDone c.code
      else s.toldDown p c := by
  split
  next h => exact s.goDown_of_owed p c h
  next h => exact s.goDown_of_not_owed p c h

theorem State.toldDown_keeps (s : State) (p : PortId) (c : Cause) :
    (s.toldDown p c).upstream = s.upstream ∧ (s.toldDown p c).table = s.table
      ∧ (s.toldDown p c).txns = s.txns ∧ (s.toldDown p c).agent = s.agent
      ∧ (s.toldDown p c).pending = s.pending := by
  obtain ⟨_, _, h⟩ := State.memberDown_frame
    ((s.setPort p { s.port p with phase := .down c, tx := .idle }).requestsEvent [5, byte p, c.code]) p
  rw [State.toldDown, h]
  exact ⟨rfl, rfl, rfl, rfl, rfl⟩

theorem State.goDown_keeps (s : State) (p : PortId) (c : Cause) :
    (s.goDown p c).upstream = s.upstream ∧ (s.goDown p c).table = s.table
      ∧ (s.goDown p c).txns = s.txns ∧ (s.goDown p c).sync = (s.toldDown p c).sync
      ∧ (s.goDown p c).pending = s.pending := by
  obtain ⟨hup, htable, htxns, -, hpending⟩ := s.toldDown_keeps p c
  rw [State.goDown_eq]
  split
  · obtain ⟨dup, dtable, -, dtxns, dsync, dpending⟩ := State.deferredDone_keeps
      ((s.toldDown p c).setPort p { (s.toldDown p c).port p with owed := .none }) c.code
    exact ⟨dup.trans hup, dtable.trans htable, dtxns.trans htxns, dsync, dpending.trans hpending⟩
  · exact ⟨hup, htable, htxns, rfl, hpending⟩

theorem State.releaseFor_keeps (s : State) (e : Entry) :
    (s.releaseFor e).table = s.table ∧ (s.releaseFor e).ports = s.ports ∧ (s.releaseFor e).sync = s.sync
      ∧ (s.releaseFor e).agent = s.agent ∧ (s.releaseFor e).pending = s.pending
      ∧ (s.releaseFor e).txns.deadlineMs = s.txns.deadlineMs
      ∧ (s.releaseFor e).upstream = s.upstream := by
  unfold State.releaseFor
  split <;> exact ⟨rfl, rfl, rfl, rfl, rfl, rfl, rfl⟩

/-! ### The blocks that a move reaches -/

/-- Whatever a move does to the other blocks, the banks keep their entries, take them from one
another, or take valid ones. -/
theorem State.Move.table_from {s t : State} (h : s.Move t) : t.table.From s.table ∨ t.table = .reset := by
  have same {x : StreamTable} (hx : x = s.table) : x.From s.table := hx ▸ s.table.from_self s.table.commit
  cases h with
  | reset => exact .inr rfl
  | hubCleared => exact .inl (s.table.from_self .none)
  | banked x hx => exact .inl hx
  | entrySent x e rest => exact .inl (same (State.releaseFor_keeps _ e).1)
  | regrouped a mode =>
    obtain ⟨_, h⟩ := State.tellWatches_keeps
      (s.setGroup a.group { (s.group a.group).configured a with mode := mode }) s
    exact .inl (same (by rw [h]; rfl))
  | stopHeld c rest p => exact .inl (same ((s.held c rest).stopPort_local p).table)
  | restartHeld c rest p => exact .inl (same ((s.held c rest).restartPort_local p).table)
  | restartAnswered p b => exact .inl (same (State.deferredDone_keeps _ b).2.1)
  | wentDown p c => exact .inl (same (s.goDown_keeps p c).2.1)
  | linked h => exact .inl (same h.keeps.table)
  | _ => exact .inl (same rfl)

theorem State.Move.pending {s t : State} (h : s.Move t) : t.pending = s.pending := by
  cases h with
  | entrySent x e rest => exact (State.releaseFor_keeps _ e).2.2.2.2.1
  | regrouped a mode =>
    obtain ⟨_, h⟩ := State.tellWatches_keeps
      (s.setGroup a.group { (s.group a.group).configured a with mode := mode }) s
    rw [h]; rfl
  | stopHeld c rest p => exact ((s.held c rest).stopPort_local p).pending
  | restartHeld c rest p => exact ((s.held c rest).restartPort_local p).pending
  | restartAnswered p b => exact (State.deferredDone_keeps _ b).2.2.2.2.2
  | wentDown p c => exact (s.goDown_keeps p c).2.2.2.2
  | linked h => exact h.keeps.pending
  | _ => rfl

/-! ### The sync groups after a move -/

theorem SyncGroup.Move.keeps {x y : SyncGroup} (h : x.Move y) :
    y.members = x.members ∧ (y.armed = true → x.armed = true) := by
  cases h with
  | counted => exact ⟨rfl, id⟩
  | emptied mode n rounds splits hm =>
    refine ⟨rfl, fun ha => ?_⟩
    rcases hm with rfl | rfl
    · exact ha
    · cases ha
  | reported p ha => exact ⟨rfl, fun _ => ha⟩

/-- A round that ends, a group that goes OFF, and a member's loss are moves of one group. -/
theorem State.memberDown_group (s : State) (p : PortId) (g : GroupId) :
    (s.group g).Move ((s.memberDown p).group g) := by
  rcases s.memberDown_cases p with h | ⟨k, -, -, h | h⟩ <;> rw [h]
  · exact .refl _
  · rw [State.groupOff_eq, State.setGroup_group]
    split
    next hg => subst hg; exact .emptied _ _ _ _ (.inr rfl) (.inl rfl)
    next => exact .refl _
  · unfold State.roundEnds
    rw [State.setGroup_group]
    split
    next hg =>
      subst hg
      refine .emptied _ _ _ _ ?_ (.inr (Nat.mod_lt _ (by decide)))
      cases (s.group g).mode <;> simp
    next => exact .refl _

/-- What a move can do to the sync groups: each group moves, all are reset, or a SYNC-SET gives one its
settings. -/
theorem State.Move.groups {s t : State} (h : s.Move t) :
    (∀ g, (s.group g).Move (t.group g)) ∨ (∀ g, t.group g = .reset)
      ∨ ∃ (a : SyncSettings) (mode : GroupMode), (1 ≤ a.window ∧ a.window ≤ 65535)
          ∧ (∀ k, k ≠ a.group → (s.group k).members &&& a.members = 0)
          ∧ t = (s.setGroup a.group { (s.group a.group).configured a with mode := mode }).tellWatches s := by
  have same {x : SyncBlock} (hx : x = s.sync) (g : GroupId) : (s.group g).Move x.groups[g] := by
    subst hx; exact .refl _
  cases h with
  | reset =>
    refine .inr (.inl fun g => ?_)
    match g with
    | 0 | 1 | 2 | 3 => rfl
  | hubCleared =>
    refine .inl fun g => ?_
    have : s.hubCleared.group g = (s.group g).cleared := forFour_getElem (fun g => (s.group g).cleared) g
    rw [this]
    exact .emptied _ _ _ _ (.inr rfl) (.inl rfl)
  | synced x hx => exact .inl hx
  | entrySent x e rest => exact .inl (same (State.releaseFor_keeps _ e).2.2.1)
  | regrouped a mode hw hm => exact .inr (.inr ⟨a, mode, hw, hm, rfl⟩)
  | stopHeld c rest p => exact .inl (same ((s.held c rest).stopPort_local p).sync)
  | restartHeld c rest p => exact .inl (same ((s.held c rest).restartPort_local p).sync)
  | restartAnswered p b => exact .inl (same (State.deferredDone_keeps _ b).2.2.2.2.1)
  | wentDown p c =>
    refine .inl fun g => ?_
    have : (s.goDown p c).group g = (s.toldDown p c).group g := by
      simp only [State.group, (s.goDown_keeps p c).2.2.2.1]
    rw [this]
    exact ((s.setPort p { s.port p with phase := .down c, tx := .idle }).requestsEvent
      [5, byte p, c.code]).memberDown_group p g
  | linked h => exact .inl (same h.keeps.sync)
  | _ => exact .inl fun _ => .refl _

end Sys2Proof.Machine

/-! SUPPORT and THEOREMS. A microsecond, the queue of commands, and the banks and sync groups at every
step (R25, R148, R149). -/

namespace Sys2Proof.Machine

/-! ### A microsecond -/

section
variable (s : State)

@[simp] theorem State.tick_port (p : PortId) : s.tick.port p = (s.port p).tick :=
  forFour_getElem (fun p => (s.port p).tick) p

@[simp] theorem State.tick_group (g : GroupId) : s.tick.group g = (s.group g).tick :=
  forFour_getElem (fun g => (s.group g).tick) g

@[simp] theorem State.tick_record (t : Tag) : s.tick.record t = (s.record t).map Transaction.tick :=
  Vector.getElem_map _ t.isLt

@[simp] theorem State.tick_upstream : s.tick.upstream = s.upstream := rfl
@[simp] theorem State.tick_table : s.tick.table = s.table := rfl
@[simp] theorem State.tick_ret : s.tick.ret = s.ret := rfl
@[simp] theorem State.tick_agent : s.tick.agent = s.agent := rfl
@[simp] theorem State.tick_deadlineMs : s.tick.txns.deadlineMs = s.txns.deadlineMs := rfl

@[simp] theorem State.tick_wanted (p : PortId) : s.tick.wanted p = s.wanted p := by
  simp only [State.wanted, State.tick_group]
  rfl

end

/-! ### The queue of commands -/

/-- Settles O3: a command is a run of moves, and no move touches the queue of those that wait. -/
theorem everyCommandCompletes : Obligations.EveryCommandCompletes := by
  intro c s
  obtain ⟨t, hexec, hmoves⟩ := exec_moves c s
  exact ⟨t, hexec, hmoves.keeps (P := fun u => u.pending = s.pending)
    (fun _ _ hmove hu => hmove.pending.trans hu) rfl⟩

/-! ### The banks -/

/-- R25: entries that stand in valid banks, or are valid, make valid banks. -/
theorem StreamTable.From.valid {x y : StreamTable} (h : x.From y)
    (hy : ∀ i : Fin 31, y.active[i].valid = true ∧ y.staged[i].valid = true) :
    ∀ i : Fin 31, x.active[i].valid = true ∧ x.staged[i].valid = true := by
  intro i
  obtain ⟨hactive, hstaged⟩ := h i
  obtain ⟨ha, hs⟩ := hy i
  constructor
  · rcases hactive with h | h <;> rw [h] <;> assumption
  · rcases hstaged with h | h | h
    · rw [h]; exact ha
    · rw [h]; exact hs
    · exact h

theorem StreamTable.reset_valid (i : Fin 31) :
    StreamTable.reset.active[i].valid = true ∧ StreamTable.reset.staged[i].valid = true := by
  simp [StreamTable.reset, StreamEntry.valid]

theorem State.Move.keeps_tableSound {s t : State} (h : s.Move t) (hs : s.tableSound) : t.tableSound := by
  rcases h.table_from with h | h
  · exact h.valid hs
  · intro i
    rw [h]
    exact StreamTable.reset_valid i

/-! ### The sync groups -/

theorem SyncGroup.sound_iff (x : SyncGroup) :
    x.sound = true ↔ x.reported &&& ~~~x.members = 0 ∧ (x.timer.isSome = true ↔ x.reported ≠ 0)
      ∧ (x.armed = true ∨ x.reported = 0) ∧ (1 ≤ x.window ∧ x.window ≤ 65535)
      ∧ x.roundNumber < 65536 := by
  simp only [SyncGroup.sound, Bool.and_eq_true, Bool.or_eq_true, beq_iff_eq, decide_eq_true_eq,
    Bool.eq_iff_iff (b := _ != _), bne_iff_ne]
  tauto

/-- A port that is a member reports as a member. -/
theorem PortSet.insert_subset {m r : PortSet} {p : PortId} (hr : r &&& ~~~m = 0)
    (hp : PortSet.has m p = true) : PortSet.insert r p &&& ~~~m = 0 := by
  match p with
  | 0 | 1 | 2 | 3 =>
    revert m r
    decide

theorem PortSet.insert_ne_zero (r : PortSet) (p : PortId) : PortSet.insert r p ≠ 0 := by
  match p with
  | 0 | 1 | 2 | 3 =>
    revert r
    decide

/-- R148: a group keeps to its conditions whatever becomes of its round. -/
theorem SyncGroup.Move.keeps_sound {x y : SyncGroup} (h : x.Move y) (hx : x.sound = true) :
    y.sound = true := by
  obtain ⟨hmembers, htimer, harmed, hwindow, hnumber⟩ := x.sound_iff.1 hx
  cases h with
  | counted => exact hx
  | emptied mode n rounds splits hm hn =>
    refine (SyncGroup.sound_iff _).2 ⟨by simp, by simp, .inr rfl, hwindow, ?_⟩
    rcases hn with rfl | hn
    · exact hnumber
    · exact hn
  | reported p ha hp =>
    refine (SyncGroup.sound_iff _).2 ⟨PortSet.insert_subset hmembers hp, ?_, .inl ha, hwindow, hnumber⟩
    have hstarted : (x.reportedBy p).timer.isSome = true := by
      simp only [SyncGroup.reportedBy]
      split
      next => rfl
      next h0 => exact htimer.2 h0
    exact iff_of_true hstarted (PortSet.insert_ne_zero _ _)

/-- R157: a group with new settings in range starts with an empty round. -/
theorem SyncGroup.configured_sound {x : SyncGroup} (hx : x.sound = true) {a : SyncSettings}
    (hw : 1 ≤ a.window ∧ a.window ≤ 65535) (mode : GroupMode) :
    ({ x.configured a with mode := mode }).sound = true := by
  obtain ⟨-, -, -, -, hnumber⟩ := x.sound_iff.1 hx
  exact (SyncGroup.sound_iff _).2 ⟨by simp [SyncGroup.configured, SyncGroup.emptied],
    by simp [SyncGroup.configured, SyncGroup.emptied], .inr rfl, hw, hnumber⟩

theorem SyncGroup.tick_sound (x : SyncGroup) : x.tick.sound = x.sound := by
  simp only [SyncGroup.sound, SyncGroup.tick, tickTimer, Option.isSome_map]
  rfl

@[simp] theorem State.tellWatches_group (s b : State) (g : GroupId) :
    (s.tellWatches b).group g = s.group g := by
  obtain ⟨_, h⟩ := s.tellWatches_keeps b
  rw [h]; rfl

/-- R149: groups that are given disjoint members stay disjoint. -/
theorem PortSet.and_comm_zero {m n : PortSet} (h : m &&& n = 0) : n &&& m = 0 := by
  rwa [BitVec.and_comm]

theorem State.Move.keeps_groupsSound {s t : State} (h : s.Move t) (hs : s.groupsSound) :
    t.groupsSound := by
  obtain ⟨hsound, hapart⟩ := hs
  rcases h.groups with hmove | hreset | ⟨a, mode, hw, hm, ht⟩
  · refine ⟨fun g => (hmove g).keeps_sound (hsound g), fun g k hgk => ?_⟩
    rw [(hmove g).keeps.1, (hmove k).keeps.1]
    exact hapart g k hgk
  · refine ⟨fun g => ?_, fun g k _ => ?_⟩
    · rw [hreset g]; decide
    · rw [hreset g, hreset k]; decide
  · refine ⟨fun g => ?_, fun g k hgk => ?_⟩
    · rw [ht, State.tellWatches_group, State.setGroup_group]
      split
      · exact SyncGroup.configured_sound (hsound a.group) hw mode
      · exact hsound g
    · rw [ht, State.tellWatches_group, State.tellWatches_group, State.setGroup_group, State.setGroup_group]
      by_cases hg : g = a.group
      · have hk : k ≠ a.group := fun e => hgk (hg.trans e.symm)
        rw [if_pos hg, if_neg hk]
        exact PortSet.and_comm_zero (hm k hk)
      · by_cases hk : k = a.group
        · rw [if_neg hg, if_pos hk]
          exact hm g hg
        · rw [if_neg hg, if_neg hk]
          exact hapart g k hgk

theorem State.tick_groupsSound {s : State} (hs : s.groupsSound) : s.tick.groupsSound := by
  refine ⟨fun g => ?_, fun g k hgk => ?_⟩
  · rw [State.tick_group, SyncGroup.tick_sound]
    exact hs.1 g
  · rw [State.tick_group, State.tick_group]
    exact hs.2 g k hgk

/-- Settles O53: every move takes entries from valid banks or valid ones, and moves groups within their
conditions. -/
theorem banksAndGroupsStayValid : Obligations.BanksAndGroupsStayValid := by
  intro s t htable hgroups hstep
  refine step_keeps (P := fun u => u.tableSound ∧ u.groupsSound) ?_ ?_ ?_ ⟨htable, hgroups⟩ hstep
  · exact fun u _ hu => ⟨hu.1, State.tick_groupsSound hu.2⟩
  · exact fun _ _ hu => hu
  · exact fun _ _ hmove hu => ⟨hmove.keeps_tableSound hu.1, hmove.keeps_groupsSound hu.2⟩

end Sys2Proof.Machine

/-! SUPPORT. What an admission makes of the ports (R59, R60, R86), and for which ports the slicer forms
pieces (R56, R69). -/

namespace Sys2Proof.Machine

/-! ### The targets of a packet -/

theorem lineFor_port {out size : Nat} {windows : Vector (Option Window) 4} {h : Header}
    {payload : List Byte} {p : PortId} {x : PortPieces}
    (hx : lineFor out size windows h payload p = some x) : x.port = p := by
  unfold lineFor at hx
  split at hx
  · split at hx <;> cases hx
    rfl
  · cases hx

/-- What is formed for some of the ports of a list stands in the order of that list. -/
theorem ports_filterMap_sublist {f : PortId → Option PortPieces} (hf : ∀ p x, f p = some x → x.port = p) :
    ∀ l : List PortId, ((l.filterMap f).map PortPieces.port).Sublist l
  | []     => List.Sublist.slnil
  | p :: l => by
    cases hp : f p with
    | none => simpa [hp] using (ports_filterMap_sublist hf l).cons p
    | some x => simpa [hp, hf p x hp] using ports_filterMap_sublist hf l

theorem slicePacket_ports_sublist (kind : StreamKind) (h : Header) (payload : List Byte) (out : Nat)
    (fields : EntryClass) (live : List PortId) (limitOf : PortId → Option Nat) :
    ((slicePacket kind h payload out fields live limitOf).map PortPieces.port).Sublist live := by
  have all (f : PortId → PortPieces) (hf : ∀ p, (f p).port = p) :
      ((live.map f).map PortPieces.port).Sublist live := by
    rw [List.map_map, show PortPieces.port ∘ f = id from funext hf, List.map_id]
  unfold slicePacket
  split
  · exact all _ fun _ => rfl
  · exact ports_filterMap_sublist (fun _ _ => lineFor_port) live
  · exact all _ fun _ => rfl
  · exact all _ fun _ => rfl
  · exact List.nil_sublist live

section
variable (s : State) (kind : StreamKind) (h : Header) (payload : List Byte) (members : PortSet)
  (out : Nat) (fields : EntryClass)

/-- The slicer forms pieces for each port at most once, in ascending order. -/
theorem State.sliceFor_ascends :
    ((s.sliceFor kind h payload members out fields).map PortPieces.port).Pairwise (· < ·) :=
  (PortSet.toList_ascends members _).sublist (slicePacket_ports_sublist kind h payload out fields _ _)

theorem State.sliceFor_nodup :
    ((s.sliceFor kind h payload members out fields).map PortPieces.port).Nodup :=
  (s.sliceFor_ascends kind h payload members out fields).imp fun hlt => ne_of_lt hlt

/-- R56: the targets of a packet are live members. -/
theorem State.sliceFor_live {x : PortPieces} (hx : x ∈ s.sliceFor kind h payload members out fields) :
    PortSet.has members x.port = true ∧ (s.port x.port).live = true := by
  have hsub := slicePacket_ports_sublist kind h payload out fields
    ((PortSet.toList members).filter fun p => (s.port p).live) fun p => (s.port p).limit
  have hmem := hsub.subset (List.mem_map_of_mem (f := PortPieces.port) hx)
  rw [List.mem_filter, PortSet.mem_toList] at hmem
  exact hmem

end

/-! ### Linked pieces -/

@[simp] theorem linkPiece_payload (t : Tag) (x : Piece) : (linkPiece t x).payload = x.payload := by
  unfold linkPiece
  split <;> rfl

@[simp] theorem PortPieces.linked_port (tagged : Option RequestKind) (t : Tag) (x : PortPieces) :
    (x.linked tagged t).port = x.port := by
  cases tagged <;> rfl

theorem PortPieces.linked_ports (tagged : Option RequestKind) (t : Tag) (l : List PortPieces) :
    (l.map (PortPieces.linked tagged t)).map PortPieces.port = l.map PortPieces.port := by
  simp [Function.comp_def]

@[simp] theorem PortPieces.linked_length (tagged : Option RequestKind) (t : Tag) (x : PortPieces) :
    (x.linked tagged t).pieces.length = x.pieces.length := by
  cases tagged <;> simp [PortPieces.linked]

@[simp] theorem PortPieces.linked_bytes (tagged : Option RequestKind) (t : Tag) (x : PortPieces) :
    queueBytes (x.linked tagged t).pieces = queueBytes x.pieces := by
  cases tagged <;> simp [PortPieces.linked, queueBytes, Function.comp_def]

/-! ### The ports after an admission -/

theorem State.appendAll_port_of_mem (s : State) {targets : List PortPieces} {x : PortPieces}
    (hn : (targets.map PortPieces.port).Nodup) (hx : x ∈ targets) :
    (s.appendAll targets).port x.port = (s.port x.port).append x.pieces := by
  induction targets generalizing s with
  | nil => cases hx
  | cons y ys ih =>
    rw [List.map_cons, List.nodup_cons] at hn
    change ((s.setPort y.port ((s.port y.port).append y.pieces)).appendAll ys).port x.port = _
    rcases List.mem_cons.1 hx with rfl | hmem
    · have hnot : ∀ z ∈ ys, z.port ≠ x.port := fun z hz e =>
        hn.1 (List.mem_map.2 ⟨z, hz, e⟩)
      rw [State.appendAll_port_of_not _ _ _ hnot, State.setPort_port_same]
    · have hne : x.port ≠ y.port := fun e => hn.1 (e ▸ List.mem_map_of_mem hmem)
      rw [ih _ hn.2 hmem, State.setPort_port_ne _ _ hne]

@[simp] theorem State.judgePort_wanted (s : State) (p q : PortId) :
    (s.judgePort p).wanted q = s.wanted q := rfl

theorem State.judgeAll_port_of_mem (s : State) {ps : List PortId} {q : PortId} (hn : ps.Nodup)
    (hq : q ∈ ps) : (ps.foldl State.judgePort s).port q = (s.port q).judge (s.wanted q) := by
  induction ps generalizing s with
  | nil => cases hq
  | cons p ps ih =>
    rw [List.nodup_cons] at hn
    rw [List.foldl_cons]
    rcases List.mem_cons.1 hq with rfl | hmem
    · rw [State.judgeAll_port_of_not _ _ _ hn.1, State.judgePort_port_same]
    · have hne : q ≠ p := fun e => hn.1 (e ▸ hmem)
      rw [ih _ hn.2 hmem, State.judgePort_port_ne _ hne, State.judgePort_wanted]

section
variable (s : State) (h : Header) (tagged : Option RequestKind) (members : PortSet)
  (targets : List PortPieces)

/-- An admission, before the targets judge what to do. -/
def State.enqueued : State :=
  ((s.appendAll (targets.map (PortPieces.linked tagged h.tag))).createFor h tagged members
    (targets.map PortPieces.port)).countStream h.stream StreamCounts.accept

theorem State.admitPacket_eq : s.admitPacket h tagged members targets
    = (targets.map PortPieces.port).foldl State.judgePort (s.enqueued h tagged members targets) := rfl

@[simp] theorem State.createFor_port (ps : List PortId) (q : PortId) :
    (s.createFor h tagged members ps).port q = s.port q := by
  cases tagged <;> rfl

@[simp] theorem State.createFor_wanted (ps : List PortId) (q : PortId) :
    (s.createFor h tagged members ps).wanted q = s.wanted q := by
  cases tagged <;> rfl

@[simp] theorem State.appendAll_wanted (q : PortId) : (s.appendAll targets).wanted q = s.wanted q := by
  obtain ⟨_, happend⟩ := s.appendAll_keeps targets
  rw [happend, State.withPorts_wanted]

@[simp] theorem State.enqueued_wanted (q : PortId) :
    (s.enqueued h tagged members targets).wanted q = s.wanted q := by
  simp [State.enqueued]

/-- R59, R86: a target has its pieces at the young end of its queue, and judges what to do. -/
theorem State.admitPacket_port_of_mem (hn : (targets.map PortPieces.port).Nodup) {x : PortPieces}
    (hx : x ∈ targets) : (s.admitPacket h tagged members targets).port x.port
      = ((s.port x.port).append (x.linked tagged h.tag).pieces).judge (s.wanted x.port) := by
  have hlinked : x.linked tagged h.tag ∈ targets.map (PortPieces.linked tagged h.tag) :=
    List.mem_map_of_mem hx
  have happend := s.appendAll_port_of_mem (by rwa [PortPieces.linked_ports]) hlinked
  rw [PortPieces.linked_port] at happend
  rw [State.admitPacket_eq, State.judgeAll_port_of_mem _ hn (List.mem_map_of_mem hx),
    State.enqueued_wanted]
  simp only [State.enqueued, State.countStream_port, State.createFor_port, happend]

/-- R59: a port that is no target is left as it is. -/
theorem State.admitPacket_port_of_not {q : PortId} (hq : ∀ x ∈ targets, x.port ≠ q) :
    (s.admitPacket h tagged members targets).port q = s.port q := by
  have hnot : q ∉ targets.map PortPieces.port := by
    rintro hmem
    obtain ⟨x, hx, rfl⟩ := List.mem_map.1 hmem
    exact hq x hx rfl
  rw [State.admitPacket_eq, State.judgeAll_port_of_not _ _ _ hnot]
  simp only [State.enqueued, State.countStream_port, State.createFor_port]
  refine State.appendAll_port_of_not _ _ _ fun y hy => ?_
  obtain ⟨x, hx, rfl⟩ := List.mem_map.1 hy
  rw [PortPieces.linked_port]
  exact hq x hx

/-- R59: a port is a target of an admission, or is left as it is. -/
theorem State.admitPacket_port_cases (hn : (targets.map PortPieces.port).Nodup) (q : PortId) :
    (∃ x ∈ targets, x.port = q ∧ (s.admitPacket h tagged members targets).port q
        = ((s.port q).append (x.linked tagged h.tag).pieces).judge (s.wanted q))
      ∨ (∀ x ∈ targets, x.port ≠ q) ∧ (s.admitPacket h tagged members targets).port q = s.port q := by
  by_cases hq : ∃ x ∈ targets, x.port = q
  · obtain ⟨x, hx, rfl⟩ := hq
    exact .inl ⟨x, hx, rfl, s.admitPacket_port_of_mem h tagged members targets hn hx⟩
  · have hnot : ∀ x ∈ targets, x.port ≠ q := fun x hx e => hq ⟨x, hx, e⟩
    exact .inr ⟨hnot, s.admitPacket_port_of_not h tagged members targets hnot⟩

end

end Sys2Proof.Machine

/-! SUPPORT. What a move can make of one tile port. -/

namespace Sys2Proof.Machine

/-! ### One port after the rows that reach it with others -/

/-- R121: a port after the expiry of these port records of tag `t`. -/
def Port.expiredBy (t : Tag) (x : Port) (rs : List PortRecord) : Port :=
  rs.foldl (fun x r => x.expire t r) x

theorem State.expirePorts_port (s : State) (t : Tag) (parts : List PortRecord) (q : PortId) :
    (s.expirePorts t parts).port q
      = (s.port q).expiredBy t (parts.filter fun r => r.port == q) := by
  induction parts generalizing s with
  | nil => rfl
  | cons r rs ih =>
    refine (ih (s.setPort r.port ((s.port r.port).expire t r))).trans ?_
    by_cases hr : r.port = q
    · subst hr
      simp [Port.expiredBy]
    · rw [State.setPort_port_ne _ _ (Ne.symm hr)]
      simp [hr]

theorem State.complete_port (s : State) (t : Tag) (x : Transaction) (q : PortId) :
    (s.complete t x).port q = s.port q := rfl

theorem mem_allPorts (p : PortId) : p ∈ allPorts := by
  match p with
  | 0 | 1 | 2 | 3 => decide

/-- R150: a port whose wish to watch has changed judges what to do, another is left as it is. -/
theorem State.tellWatches_port (s b : State) (q : PortId) :
    (s.tellWatches b).port q
      = if s.wanted q = b.wanted q then s.port q else (s.port q).judge (s.wanted q) := by
  have hwanted (u : State) (p : PortId) : (b.tellWatch u p).wanted q = u.wanted q := by
    unfold State.tellWatch
    split <;> rfl
  have hsame (u : State) : (b.tellWatch u q).port q
      = if u.wanted q = b.wanted q then u.port q else (u.port q).judge (u.wanted q) := by
    unfold State.tellWatch
    split
    · rfl
    · exact u.judgePort_port_same q
  have hother (u : State) {p : PortId} (hp : q ≠ p) : (b.tellWatch u p).port q = u.port q := by
    unfold State.tellWatch
    split
    · rfl
    · exact u.judgePort_port_ne hp
  have not_mem (l : List PortId) (u : State) (hl : q ∉ l) : (l.foldl b.tellWatch u).port q = u.port q := by
    induction l generalizing u with
    | nil => rfl
    | cons p l ih =>
      obtain ⟨hp, hl⟩ := not_or.1 (mt List.mem_cons.2 hl)
      exact (ih _ hl).trans (hother u hp)
  have mem (l : List PortId) (u : State) (hn : l.Nodup) (hl : q ∈ l) : (l.foldl b.tellWatch u).port q
      = if u.wanted q = b.wanted q then u.port q else (u.port q).judge (u.wanted q) := by
    induction l generalizing u with
    | nil => cases hl
    | cons p l ih =>
      rw [List.nodup_cons] at hn
      by_cases hp : q = p
      · subst hp
        exact (not_mem l _ hn.1).trans (hsame u)
      · refine (ih (b.tellWatch u p) hn.2 ((List.mem_cons.1 hl).resolve_left hp)).trans ?_
        rw [hwanted, hother u hp]
  exact mem allPorts s (by decide) (mem_allPorts q)

/-! ### The courses of a port -/

/-- What a port, wanted to watch or not, can become in one move, but for a SYNC-SET. -/
inductive Port.Course (wanted : Bool) (x : Port) : Port → Prop where
  | same : Port.Course wanted x x
  | moved {y : Port} (h : x.Move wanted y) : Port.Course wanted x y
  | reset : Port.Course wanted x .reset
  | hubCleared : Port.Course wanted x x.hubCleared
  | exchangeOpened (a : PendingAnswer) (hp : x.phase = .sending) (ht : x.tx = .passAnswer)
      (ha : x.pendingAnswer = some a) : Port.Course wanted x (x.openExchange a)
  | exchangeEnded (e : Exchange) (hp : x.receives = true) (he : x.exchange = some e) :
      Port.Course wanted x (x.endExchange.judge wanted)
  | timedOut (n : Nat) (hp : x.phase = .waiting) (hn : x.answerTimer = some n) :
      Port.Course wanted x x.timedOut.failed
  | collided (hh : x.holder = .hub) (hs : x.seize = none) (hd : x.isDown = false) :
      Port.Course wanted x x.collided.failed
  | stopped (hl : x.live = true) : Port.Course wanted x x.stopped
  | stopOwed (hl : x.live = false) (hd : x.isDown = false) : Port.Course wanted x { x with owed := .stop }
  | restarted (hl : x.live = true) : Port.Course wanted x x.restarted
  | revived (hl : x.live = false) : Port.Course wanted x x.revived
  | answered (ho : x.owed = .restart) : Port.Course wanted x { x with owed := .none }
  | wentDown (c : Cause) (hp : x.phase = .clearing (.down c)) (ht : x.tx = .clear)
      (ho : x.owed ≠ .restart) :
      Port.Course wanted x { x with phase := .down c, tx := .idle, owed := .none }
  | admitted (ps qs : List Piece) (hl : x.live = true) (hr : x.hasRoom qs = true)
      (hlen : ps.length = qs.length) (hbytes : queueBytes ps = queueBytes qs) :
      Port.Course wanted x ((x.append ps).judge wanted)
  | expired (t : Tag) (rs : List PortRecord) : Port.Course wanted x (x.expiredBy t rs)

/-- A write of one port is a course of every port when it is one of that port. -/
theorem State.setPort_course {s : State} {p : PortId} {x : Port}
    (h : (s.port p).Course (s.wanted p) x) (q : PortId) :
    (s.port q).Course (s.wanted q) ((s.setPort p x).port q) := by
  rw [State.setPort_port]
  split
  next hq => subst hq; exact h
  next => exact .same

theorem State.port_eq_of_ports {s t : State} (h : t.ports = s.ports) (q : PortId) : t.port q = s.port q := by
  simp only [State.port, h]

theorem State.handResult_port (s : State) (p : PortId) (e : Exchange) (q : PortId) :
    (s.handResult p e).port q = s.port q := by
  unfold State.handResult
  split
  · exact s.takeResult_port p q e
  · rfl

theorem State.openExchange_port (s : State) (p : PortId) (a : PendingAnswer) (q : PortId) :
    (s.openExchange p a).port q = (s.setPort p ((s.port p).openExchange a)).port q := by
  simp only [State.openExchange]
  split
  next t _ =>
    unfold State.partAwaits
    rcases State.onOpenRecord_cases (s.setPort p ((s.port p).openExchange a)) t _ with
      ⟨x, _, _, h⟩ | ⟨_, h⟩ <;> rw [h]
    rfl
  next => rfl

theorem State.goDown_port {s : State} {p : PortId} {c : Cause} (ho : (s.port p).owed ≠ .restart)
    (q : PortId) : (s.goDown p c).port q
      = (s.setPort p { s.port p with phase := .down c, tx := .idle, owed := .none }).port q := by
  have htold (q : PortId) : (s.toldDown p c).port q
      = (s.setPort p { s.port p with phase := .down c, tx := .idle }).port q := by
    rw [State.toldDown, State.memberDown_port, State.requestsEvent_port]
  rw [State.goDown_eq]
  by_cases hq : q = p
  · subst hq
    split
    · rw [State.deferredDone_port, State.setPort_port_same, htold, State.setPort_port_same,
        State.setPort_port_same]
    next hstop =>
      have hnone : (s.port q).owed = .none := by cases h : (s.port q).owed <;> simp_all
      rw [htold, State.setPort_port_same, State.setPort_port_same, ← hnone]
  · split <;> simp only [State.deferredDone_port, State.setPort_port_ne _ _ hq, htold]

theorem State.stopPort_port (s : State) (p q : PortId) :
    (s.stopPort p).port q = (s.setPort p
      (if (s.port p).live then (s.port p).stopped else { s.port p with owed := .stop })).port q := by
  simp only [State.stopPort]
  split
  · rw [State.handNotices_port]
  · rfl

theorem State.restartPort_port (s : State) (p q : PortId) :
    (s.restartPort p).port q = (s.setPort p
      (if (s.port p).live then (s.port p).restarted else (s.port p).revived)).port q := by
  simp only [State.restartPort]
  split
  · rw [State.handNotices_port]
  · rfl

theorem State.failPort_port (s : State) (p : PortId) (f : Port → Port) (q : PortId) :
    (s.failPort p f).port q = (s.setPort p (f (s.port p)).failed).port q :=
  State.handNotices_port _ _ _ _

/-- R59: an admission is a course of every port. -/
theorem State.admitPacket_course {s : State} {kind : StreamKind} {h : Header} {payload : List Byte}
    {members : PortSet} {out : Nat} {fields : EntryClass} (tagged : Option RequestKind)
    (hr : ∀ x ∈ s.sliceFor kind h payload members out fields, (s.port x.port).hasRoom x.pieces = true)
    (q : PortId) : (s.port q).Course (s.wanted q) ((s.admitPacket h tagged members
      (s.sliceFor kind h payload members out fields)).port q) := by
  rcases s.admitPacket_port_cases h tagged members _
    (s.sliceFor_nodup kind h payload members out fields) q with ⟨x, hx, rfl, hq⟩ | ⟨-, hq⟩ <;> rw [hq]
  · exact .admitted _ x.pieces (s.sliceFor_live kind h payload members out fields hx).2 (hr x hx)
      (x.linked_length tagged h.tag) (x.linked_bytes tagged h.tag)
  · exact .same

theorem State.LinkMove.course {s t : State} (h : s.LinkMove t) (q : PortId) :
    (s.port q).Course (s.wanted q) (t.port q) := by
  cases h with
  | ported p x hx => exact State.setPort_course (.moved hx) q
  | exchangeOpened p a hp ht ha =>
    rw [State.openExchange_port]
    exact State.setPort_course (.exchangeOpened a hp ht ha) q
  | exchangeEnded p e hp he =>
    have hport : ((s.setPort p (s.port p).endExchange).handResult p e).port p
        = (s.port p).endExchange := by rw [State.handResult_port, State.setPort_port_same]
    have hwanted : ((s.setPort p (s.port p).endExchange).handResult p e).wanted p = s.wanted p := by
      have hsync := ((s.setPort_local p (s.port p).endExchange).trans (State.handResult_local _ p e)).sync
      simp only [State.wanted, State.group, hsync]
    by_cases hq : q = p
    · subst hq
      rw [State.judgePort_port_same, hport, hwanted]
      exact .exchangeEnded e hp he
    · rw [State.judgePort_port_ne _ hq, State.handResult_port, State.setPort_port_ne _ _ hq]
      exact .same
  | timedOut p n hp hn =>
    rw [State.failPort_port]
    exact State.setPort_course (.timedOut n hp hn) q
  | collided p hh hs hd =>
    rw [State.failPort_port]
    exact State.setPort_course (.collided hh hs hd) q
  | admitted kind h payload members out fields hl hh ht hr =>
    exact State.admitPacket_course (kind.tagged h) hr q
  | expired t x hx ho =>
    rw [State.expireRecord, State.complete_port, State.expirePorts_port]
    exact .expired t _

/-- What a move can do to the ports: a course each, or what a SYNC-SET tells them. -/
theorem State.Move.course {s t : State} (h : s.Move t) (q : PortId) :
    (s.port q).Course (s.wanted q) (t.port q)
      ∨ t.port q = if t.wanted q = s.wanted q then s.port q else (s.port q).judge (t.wanted q) := by
  cases h with
  | reset =>
    refine .inl ?_
    have : (State.reset.withPending s.pending).port q = .reset := by
      match q with
      | 0 | 1 | 2 | 3 => rfl
    rw [this]
    exact .reset
  | hubCleared =>
    refine .inl ?_
    have : s.hubCleared.port q = (s.port q).hubCleared := forFour_getElem (fun p => (s.port p).hubCleared) q
    rw [this]
    exact .hubCleared
  | entrySent x e rest =>
    have : (s.entrySent x e rest).port q = s.port q :=
      State.port_eq_of_ports (s := s.withRet _) (State.releaseFor_keeps _ e).2.1 q
    rw [this]
    exact .inl .same
  | regrouped a mode =>
    refine .inr ?_
    have hwanted (u b : State) : (u.tellWatches b).wanted q = u.wanted q := by
      obtain ⟨_, hu⟩ := u.tellWatches_keeps b
      rw [hu, State.withPorts_wanted]
    rw [State.tellWatches_port, hwanted]
    rfl
  | stopHeld c rest p ho hc hd =>
    rw [State.stopPort_port]
    refine .inl (State.setPort_course (s := s.held c rest) ?_ q)
    split
    next hl => exact .stopped hl
    next hl => exact .stopOwed (by simpa using hl) hd
  | restartHeld c rest p =>
    rw [State.restartPort_port]
    refine .inl (State.setPort_course (s := s.held c rest) ?_ q)
    split
    next hl => exact .restarted hl
    next hl => exact .revived (by simpa using hl)
  | restartAnswered p b ho =>
    rw [State.deferredDone_port]
    exact .inl (State.setPort_course (.answered ho) q)
  | wentDown p c hp ht ho =>
    rw [State.goDown_port ho]
    exact .inl (State.setPort_course (.wentDown c hp ht ho) q)
  | linked h => exact .inl (h.course q)
  | _ => exact .inl .same

/-- R109: but for a SYNC-SET, no move makes a port wanted that was not. -/
theorem State.Move.wanted_mono {s t : State} (h : ∀ g, (s.group g).Move (t.group g)) {p : PortId}
    (hw : t.wanted p = true) : s.wanted p = true := by
  simp only [State.wanted, List.any_eq_true, Bool.and_eq_true] at hw ⊢
  obtain ⟨g, hg, harmed, hmember⟩ := hw
  rw [(h g).keeps.1] at hmember
  exact ⟨g, hg, (h g).keeps.2 harmed, hmember⟩

end Sys2Proof.Machine

/-! SUPPORT and THEOREMS. Every port keeps to what its state goes with (R1, R81, R82, R88 to R90, R96,
R101, R103). -/

namespace Sys2Proof.Machine

/-! ### What each state of a port goes with -/

section
variable {x : Port}

theorem Port.noExchange_iff : x.noExchange = true
    ↔ x.exchange = none ∧ x.pendingAnswer = none ∧ x.answerTimer = none := by
  simp [Port.noExchange, and_assoc]

theorem Port.emptied_iff : x.emptied = true ↔ x.queue = [] ∧ x.limit = none := by
  simp [Port.emptied]

/-- The link of a port on its way to or from service: seizing, sending CLEAR, or ending a PASS. -/
theorem Port.clearingLink_iff : x.clearingLink = true
    ↔ (x.holder = .tile ∧ x.seize.isSome = true ∧ x.tx = .idle)
      ∨ (x.holder = .hub ∧ x.seize = none ∧ (x.tx = .clear ∨ x.tx = .passAnswer ∨ x.tx = .passWatch)) := by
  unfold Port.clearingLink
  cases x.holder <;> cases x.seize <;> cases x.tx <;> simp

theorem Port.fits_clearing {d : Destination} (hp : x.phase = .clearing d) : x.fitsPhase = true
    ↔ x.noExchange = true ∧ x.clearingLink = true ∧ x.rx = .resting
      ∧ (d = .ready → x.owed ≠ .stop) ∧ (d ≠ .ready → x.emptied = true) := by
  cases d <;> simp [Port.fitsPhase, hp, and_assoc, and_comm, and_left_comm]

theorem Port.fits_ready (hp : x.phase = .ready) : x.fitsPhase = true
    ↔ x.noExchange = true ∧ x.readyLink = true ∧ x.holder = .hub ∧ x.seize = none ∧ x.owed = .none
      ∧ x.rx = .resting := by
  simp [Port.fitsPhase, hp, and_assoc]

theorem Port.fits_sending (hp : x.phase = .sending) : x.fitsPhase = true
    ↔ x.exchange = none ∧ x.answerTimer = none ∧ x.sendingLink = true ∧ x.holder = .hub
      ∧ x.seize = none ∧ x.owed = .none ∧ x.rx = .resting := by
  simp [Port.fitsPhase, hp, and_assoc]

theorem Port.fits_waiting (hp : x.phase = .waiting) : x.fitsPhase = true
    ↔ (∃ e, x.exchange = some e ∧ e.answers ≠ .watch) ∧ x.pendingAnswer = none
      ∧ x.answerTimer.isSome = true ∧ x.tx = .idle ∧ x.holder = .tile ∧ x.seize = none
      ∧ x.owed = .none := by
  cases he : x.exchange <;> simp [Port.fitsPhase, hp, he, and_assoc]

theorem Port.fits_watching (hp : x.phase = .watching) : x.fitsPhase = true
    ↔ (∃ e, x.exchange = some e ∧ e.answers = .watch) ∧ x.pendingAnswer = none
      ∧ x.answerTimer = none ∧ x.tx = .idle ∧ x.holder = .tile ∧ x.seize = none
      ∧ x.owed = .none := by
  cases he : x.exchange <;> simp [Port.fitsPhase, hp, he, and_assoc]

theorem Port.fits_down {c : Cause} (hp : x.phase = .down c) : x.fitsPhase = true
    ↔ x.noExchange = true ∧ x.emptied = true ∧ x.tx = .idle ∧ x.seize = none ∧ x.owed = .none
      ∧ x.rx = .resting := by
  simp [Port.fitsPhase, hp, and_assoc]

/-- What a SENDING port sends: the piece at its head, without a pending answer, or the PASS for one. -/
theorem Port.sendingLink_iff : x.sendingLink = true
    ↔ (∃ head rest, x.tx = .piece head.wire ∧ x.queue = head :: rest ∧ x.pendingAnswer = none)
      ∨ (x.tx = .passAnswer ∧ ∃ a, x.pendingAnswer = some a ∧ a.answers ≠ .watch) := by
  unfold Port.sendingLink
  rcases x.tx with _ | wire | _ | _ | _ <;> rcases x.queue with _ | ⟨head, rest⟩ <;>
    rcases x.pendingAnswer with _ | a <;> simp

theorem Port.inRange_iff : x.inRange = true
    ↔ x.failures ≤ 7 ∧ 1 ≤ x.failureLimit ∧ x.failureLimit ≤ 7 ∧ 10 ≤ x.answerTimeout
      ∧ x.answerTimeout ≤ 50000 := by
  simp [Port.inRange]

/-- A port that receives is WAITING or WATCHING. -/
theorem Port.receives_iff : x.receives = true ↔ x.phase = .waiting ∨ x.phase = .watching := by
  unfold Port.receives
  cases x.phase <;> simp

end

/-- Every port goes with its state, and its numbers are in range. -/
structure Port.Sound (x : Port) : Prop where
  fits : x.fitsPhase = true
  inRange : x.inRange = true

/-! ### Ports that send, or begin to -/

/-- A port back in service: nothing is sent yet, and the hub holds the link. -/
structure Port.Idles (x : Port) : Prop where
  phase : x.phase = .ready
  tx : x.tx = .idle
  noExchange : x.noExchange = true
  holder : x.holder = .hub
  seize : x.seize = none
  owed : x.owed = .none
  rx : x.rx = .resting

/-- R86: whatever such a port begins goes with its state. -/
theorem Port.Idles.judge_fits {x : Port} (h : x.Idles) {wanted : Bool} :
    (x.judge wanted).fitsPhase = true := by
  obtain ⟨he, ha, ht⟩ := Port.noExchange_iff.1 h.noExchange
  rw [x.judge_of_ready wanted h.phase h.tx]
  unfold Port.readyToSend
  split
  next head rest hq =>
    exact Iff.mpr (Port.fits_sending rfl) ⟨he, ht, Port.sendingLink_iff.2 (.inl ⟨head, rest, rfl, hq, ha⟩),
      h.holder, h.seize, h.owed, h.rx⟩
  next hq =>
    refine Iff.mpr (Port.fits_ready rfl) ⟨h.noExchange, ?_, h.holder, h.seize, h.owed, h.rx⟩
    cases wanted <;> simp [Port.readyLink, hq]

theorem Port.judge_inRange (x : Port) (wanted : Bool) : (x.judge wanted).inRange = x.inRange := by
  have h := congrArg Port.inRange (x.judge_keeps wanted)
  exact h

theorem Port.Idles.judge_sound {x : Port} (h : x.Idles) (hr : x.inRange = true) {wanted : Bool} :
    (x.judge wanted).Sound :=
  ⟨h.judge_fits, (x.judge_inRange wanted).trans hr⟩

/-- R86: judging keeps a port sound. -/
theorem Port.Sound.judge {x : Port} (h : x.Sound) (wanted : Bool) : (x.judge wanted).Sound := by
  refine ⟨?_, (x.judge_inRange wanted).trans h.inRange⟩
  by_cases hp : x.phase = .ready
  · by_cases ht : x.tx = .idle
    · obtain ⟨hn, -, hh, hs, ho, hr⟩ := (Port.fits_ready hp).1 h.fits
      exact Port.Idles.judge_fits ⟨hp, ht, hn, hh, hs, ho, hr⟩
    · rw [x.judge_of_busy wanted (.inr ht)]
      exact h.fits
  · rw [x.judge_of_busy wanted (.inl hp)]
    exact h.fits

/-- R87 to R89: a piece sent in full leaves the port sending, or idle. -/
theorem Port.Sound.afterPiece {x : Port} (h : x.Sound) {wire : List Byte} {head : Piece}
    {rest : List Piece} (hp : x.phase = .sending) (ht : x.tx = .piece wire)
    (hq : x.queue = head :: rest) (wanted : Bool) : ((x.afterPiece head rest).judge wanted).Sound := by
  obtain ⟨he, htimer, hlink, hh, hs, ho, hr⟩ := (Port.fits_sending hp).1 h.fits
  have hrange := Port.inRange_iff.1 h.inRange
  have hpending : x.pendingAnswer = none := by
    rcases Port.sendingLink_iff.1 hlink with ⟨_, _, _, _, ha⟩ | ⟨hpass, _⟩
    · exact ha
    · rw [ht] at hpass; cases hpass
  unfold Port.afterPiece
  split
  · rw [Port.judge_of_busy _ _ (.inl (by simp [hp]))]
    refine ⟨Iff.mpr (Port.fits_sending hp) ⟨he, htimer, Port.sendingLink_iff.2 (.inr ⟨rfl, _, rfl, ?_⟩),
      hh, hs, ho, hr⟩, h.inRange⟩
    unfold Piece.pending
    cases head.returnLimit <;> simp
  · split
    next next more =>
      rw [Port.judge_of_busy _ _ (.inl (by simp [hp]))]
      exact ⟨Iff.mpr (Port.fits_sending hp) ⟨he, htimer,
        Port.sendingLink_iff.2 (.inl ⟨next, more, rfl, rfl, hpending⟩), hh, hs, ho, hr⟩, h.inRange⟩
    next =>
      refine Port.Idles.judge_sound ?_ ?_
      · exact ⟨rfl, rfl, Port.noExchange_iff.2 ⟨he, hpending, htimer⟩, hh, hs, ho, hr⟩
      · exact Port.inRange_iff.2 ⟨Nat.zero_le 7, hrange.2⟩

/-- R59, R60: pieces that join the queue of a live port leave it sound, once it has judged. -/
theorem Port.Sound.append {x : Port} (h : x.Sound) (hl : x.live = true) (ps : List Piece)
    (wanted : Bool) : ((x.append ps).judge wanted).Sound := by
  have hrange : (x.append ps).inRange = true := h.inRange
  have busy (hfits : (x.append ps).fitsPhase = true) : ((x.append ps).judge wanted).Sound :=
    Port.Sound.judge ⟨hfits, hrange⟩ wanted
  cases hp : x.phase with
  | clearing d =>
    have hd : d = .ready := by
      cases d with
      | ready => rfl
      | down c => exact absurd hp ((Port.live_iff x).1 hl c).2
    obtain ⟨hn, hlink, hr, ho, -⟩ := (Port.fits_clearing hp).1 h.fits
    exact busy (Iff.mpr (Port.fits_clearing hp) ⟨hn, hlink, hr, ho, fun hne => absurd hd hne⟩)
  | ready =>
    obtain ⟨hn, hlink, hh, hs, ho, hr⟩ := (Port.fits_ready hp).1 h.fits
    by_cases ht : x.tx = .idle
    · refine Port.Idles.judge_sound ?_ hrange
      exact ⟨hp, ht, hn, hh, hs, ho, hr⟩
    · refine busy (Iff.mpr (Port.fits_ready hp) ⟨hn, ?_, hh, hs, ho, hr⟩)
      unfold Port.readyLink at hlink ⊢
      cases hx : x.tx <;> simp_all [Port.append]
  | sending =>
    obtain ⟨he, htimer, hlink, hh, hs, ho, hr⟩ := (Port.fits_sending hp).1 h.fits
    refine busy (Iff.mpr (Port.fits_sending hp) ⟨he, htimer, ?_, hh, hs, ho, hr⟩)
    rcases Port.sendingLink_iff.1 hlink with ⟨head, rest, ht, hq, ha⟩ | hpass
    · exact Port.sendingLink_iff.2 (.inl ⟨head, rest ++ ps, ht, by simp [hq], ha⟩)
    · exact Port.sendingLink_iff.2 (.inr hpass)
  | waiting => exact busy (Iff.mpr (Port.fits_waiting hp) ((Port.fits_waiting hp).1 h.fits))
  | watching => exact busy (Iff.mpr (Port.fits_watching hp) ((Port.fits_watching hp).1 h.fits))
  | down c => exact absurd hp ((Port.live_iff x).1 hl c).1

/-! ### Ports that clear -/

/-- The link that a port brings along into CLEARING. -/
structure Port.CanSettle (x : Port) : Prop where
  link : x.holder = .tile ∨ (x.holder = .hub ∧ x.seize = none ∧ x.rx = .resting)

/-- R101: whatever the link was, it is that of a clearing port. -/
theorem Port.CanSettle.enterClearing {x : Port} (h : x.CanSettle) (d : Destination) :
    (x.enterClearing d).clearingLink = true ∧ (x.enterClearing d).rx = .resting := by
  rw [Port.enterClearing_eq, Port.clearingLink_iff]
  rcases h.link with ht | ⟨hh, hs, hr⟩
  · simp [Port.linkAtClearing, Port.rxAtClearing, ht]
  · by_cases hpass : x.tx = .passAnswer ∨ x.tx = .passWatch
    · simp [Port.linkAtClearing, Port.rxAtClearing, hh, hs, hr, hpass]
    · simp [Port.linkAtClearing, Port.rxAtClearing, hh, hs, hr, hpass]

/-- A sound port that is not CLEARING can enter it. -/
theorem Port.Sound.canSettle {x : Port} (h : x.Sound) (hc : x.isClearing = false) : x.CanSettle := by
  cases hp : x.phase with
  | clearing d => simp [Port.isClearing, hp] at hc
  | ready =>
    obtain ⟨-, -, hh, hs, -, hr⟩ := (Port.fits_ready hp).1 h.fits
    exact ⟨.inr ⟨hh, hs, hr⟩⟩
  | sending =>
    obtain ⟨-, -, -, hh, hs, -, hr⟩ := (Port.fits_sending hp).1 h.fits
    exact ⟨.inr ⟨hh, hs, hr⟩⟩
  | waiting => exact ⟨.inl ((Port.fits_waiting hp).1 h.fits).2.2.2.2.1⟩
  | watching => exact ⟨.inl ((Port.fits_watching hp).1 h.fits).2.2.2.2.1⟩
  | down c =>
    obtain ⟨-, -, -, hs, -, hr⟩ := (Port.fits_down hp).1 h.fits
    cases hh : x.holder with
    | hub => exact ⟨.inr ⟨hh, hs, hr⟩⟩
    | tile => exact ⟨.inl hh⟩

/-- A sound port, flushed or not, has the link of a clearing port when it clears. -/
theorem Port.Sound.clearToward {x y : Port} (h : x.Sound) (hphase : y.phase = x.phase)
    (hholder : y.holder = x.holder) (hseize : y.seize = x.seize) (htx : y.tx = x.tx) (hrx : y.rx = x.rx)
    (d : Destination) : (y.clearToward d).clearingLink = true ∧ (y.clearToward d).rx = .resting := by
  have hsame : y.isClearing = x.isClearing := by simp only [Port.isClearing, hphase]
  rw [Port.clearToward_eq]
  split
  next hc =>
    obtain ⟨e, hp⟩ : ∃ e, x.phase = .clearing e := by
      rw [hsame] at hc
      cases hp : x.phase <;> simp [Port.isClearing, hp] at hc
      exact ⟨_, rfl⟩
    obtain ⟨-, hlink, hr, -, -⟩ := (Port.fits_clearing hp).1 h.fits
    rw [Port.clearingLink_iff] at hlink ⊢
    rw [← hholder, ← hseize, ← htx] at hlink
    exact ⟨hlink, hrx.trans hr⟩
  next hc =>
    obtain ⟨hlink⟩ := h.canSettle (by simpa [hsame] using hc)
    rw [← hholder, ← hseize, ← hrx] at hlink
    exact Port.CanSettle.enterClearing ⟨hlink⟩ d

/-- Clearing touches the state and the link of a port only. -/
theorem Port.clearToward_keeps (x : Port) (d : Destination) :
    (x.clearToward d).phase = .clearing d ∧ (x.clearToward d).queue = x.queue
      ∧ (x.clearToward d).exchange = x.exchange ∧ (x.clearToward d).pendingAnswer = x.pendingAnswer
      ∧ (x.clearToward d).answerTimer = x.answerTimer ∧ (x.clearToward d).limit = x.limit
      ∧ (x.clearToward d).inRange = x.inRange ∧ (x.clearToward d).failures = x.failures
      ∧ (x.clearToward d).owed = x.owed := by
  rw [Port.clearToward_eq]
  split
  · exact ⟨rfl, rfl, rfl, rfl, rfl, rfl, rfl, rfl, rfl⟩
  · rw [Port.enterClearing_eq]
    exact ⟨rfl, rfl, rfl, rfl, rfl, rfl, rfl, rfl, rfl⟩

/-- A port with nothing left to do clears soundly, whatever its notice and failure count become. -/
theorem Port.Sound.clears {x y : Port} (h : x.Sound) (hphase : y.phase = x.phase)
    (hholder : y.holder = x.holder) (hseize : y.seize = x.seize) (htx : y.tx = x.tx) (hrx : y.rx = x.rx)
    (hrange : y.inRange = true) (hn : y.noExchange = true) (he : y.emptied = true) {d : Destination}
    {owed : Owed} (ho : d = .ready → owed ≠ .stop) {failures : Nat} (hf : failures ≤ 7) :
    Port.Sound { y.clearToward d with owed := owed, failures := failures } := by
  obtain ⟨hlink, hrest⟩ := h.clearToward hphase hholder hseize htx hrx d
  obtain ⟨kphase, kqueue, kexchange, kpending, ktimer, klimit, krange, -, -⟩ := y.clearToward_keeps d
  rw [Port.noExchange_iff, ← kexchange, ← kpending, ← ktimer] at hn
  rw [Port.emptied_iff, ← kqueue, ← klimit] at he
  rw [← krange, Port.inRange_iff] at hrange
  exact ⟨Iff.mpr (Port.fits_clearing kphase)
    ⟨Port.noExchange_iff.2 hn, hlink, hrest, ho, fun _ => Port.emptied_iff.2 he⟩,
    Port.inRange_iff.2 ⟨hf, hrange.2⟩⟩

theorem Port.flushed_noExchange (x : Port) : x.flushed.noExchange = true := rfl
theorem Port.flushed_emptied (x : Port) : x.flushed.emptied = true := rfl

/-- R99, R105, R107, R110: a flushed port clears soundly. -/
theorem Port.Sound.flushed_clears {x : Port} (h : x.Sound) {d : Destination} {owed : Owed}
    (ho : d = .ready → owed ≠ .stop) : Port.Sound { x.flushed.clearToward d with owed := owed } := by
  have hfailures : (x.flushed.clearToward d).failures = x.failures := (x.flushed.clearToward_keeps d).2.2.2.2.2.2.2.1
  have hle : (x.flushed.clearToward d).failures ≤ 7 := hfailures ▸ (Port.inRange_iff.1 h.inRange).1
  exact h.clears (y := x.flushed) rfl rfl rfl rfl rfl h.inRange x.flushed_noExchange x.flushed_emptied ho hle

/-- A port that is not live is out of service or on its way out: nothing is left in it. -/
theorem Port.Sound.of_not_live {x : Port} (h : x.Sound) (hl : x.live = false) :
    x.noExchange = true ∧ x.emptied = true ∧ (∃ c, x.phase = .down c ∨ x.phase = .clearing (.down c)) := by
  cases hp : x.phase with
  | clearing d =>
    cases d with
    | ready => simp [Port.live, hp] at hl
    | down c =>
      obtain ⟨hn, -, -, -, he⟩ := (Port.fits_clearing hp).1 h.fits
      exact ⟨hn, he (by simp), c, .inr rfl⟩
  | down c =>
    obtain ⟨hn, he, -⟩ := (Port.fits_down hp).1 h.fits
    exact ⟨hn, he, c, .inl rfl⟩
  | ready => simp [Port.live, hp] at hl
  | sending => simp [Port.live, hp] at hl
  | waiting => simp [Port.live, hp] at hl
  | watching => simp [Port.live, hp] at hl

/-- R99: a failed port clears soundly, since the tile holds its link. -/
theorem Port.failed_sound {x : Port} (hh : x.holder = .tile) (hrange : x.inRange = true)
    (ho : x.owed = .stop → x.failureDest ≠ .ready) : x.failed.Sound := by
  rw [x.failed_eq hh]
  obtain ⟨-, hrest⟩ := Port.inRange_iff.1 hrange
  refine ⟨Iff.mpr (Port.fits_clearing rfl) ⟨rfl, rfl, rfl, fun hd hstop => ho hstop hd, fun _ => rfl⟩, ?_⟩
  exact Port.inRange_iff.2 ⟨Nat.min_le_right _ _, hrest⟩

/-- A sound port that owes a STOP is bound for DOWN. -/
theorem Port.Sound.failureDest_of_stop {x : Port} (h : x.Sound) (ho : x.owed = .stop) :
    x.failureDest ≠ .ready := by
  cases hp : x.phase with
  | clearing d =>
    cases d with
    | ready => exact absurd ho (((Port.fits_clearing hp).1 h.fits).2.2.2.1 rfl)
    | down c => simp [Port.failureDest, hp]
  | ready => simp [((Port.fits_ready hp).1 h.fits).2.2.2.2.1] at ho
  | sending => simp [((Port.fits_sending hp).1 h.fits).2.2.2.2.2.1] at ho
  | waiting => simp [((Port.fits_waiting hp).1 h.fits).2.2.2.2.2.2] at ho
  | watching => simp [((Port.fits_watching hp).1 h.fits).2.2.2.2.2.2] at ho
  | down c => simp [((Port.fits_down hp).1 h.fits).2.2.2.2.1] at ho

/-! ### Moves of one port -/

theorem Port.Sound.move {x y : Port} (h : x.Sound) {wanted : Bool} (hm : x.Move wanted y) : y.Sound := by
  have hrange := Port.inRange_iff.1 h.inRange
  cases hm with
  | counted => exact ⟨h.fits, h.inRange⟩
  | configured a ha =>
    exact ⟨h.fits, Port.inRange_iff.2 ⟨hrange.1, ha.2.2.1, ha.2.2.2, ha.1, ha.2.1⟩⟩
  | received f rx c hx hf =>
    refine ⟨?_, h.inRange⟩
    rcases Port.receives_iff.1 hx with hp | hp
    · obtain ⟨⟨e, he, hanswers⟩, hrest⟩ := (Port.fits_waiting hp).1 h.fits
      exact Iff.mpr (Port.fits_waiting hp)
        ⟨⟨f e, by simp [he], by rwa [(hf e).2.1]⟩, hrest⟩
    · obtain ⟨⟨e, he, hanswers⟩, hrest⟩ := (Port.fits_watching hp).1 h.fits
      exact Iff.mpr (Port.fits_watching hp)
        ⟨⟨f e, by simp [he], by rwa [(hf e).2.1]⟩, hrest⟩
  | sent wire head rest hp ht hq => exact h.afterPiece hp ht hq wanted
  | watchOpened hp ht =>
    obtain ⟨hn, -, -, hs, ho, -⟩ := (Port.fits_ready hp).1 h.fits
    obtain ⟨-, -, htimer⟩ := Port.noExchange_iff.1 hn
    exact ⟨Iff.mpr (Port.fits_watching rfl) ⟨⟨watchExchange, rfl, rfl⟩, rfl, htimer, rfl, rfl, hs, ho⟩, h.inRange⟩
  | passEnded d hp ht =>
    obtain ⟨hn, -, -, ho, he⟩ := (Port.fits_clearing hp).1 h.fits
    exact ⟨Iff.mpr (Port.fits_clearing hp) ⟨hn, rfl, rfl, ho, he⟩, h.inRange⟩
  | seizeCompleted n hs =>
    refine ⟨?_, h.inRange⟩
    cases hp : x.phase with
    | clearing d =>
      obtain ⟨hn, -, hr, ho, he⟩ := (Port.fits_clearing hp).1 h.fits
      exact Iff.mpr (Port.fits_clearing hp) ⟨hn, rfl, hr, ho, he⟩
    | ready => simp [((Port.fits_ready hp).1 h.fits).2.2.2.1] at hs
    | sending => simp [((Port.fits_sending hp).1 h.fits).2.2.2.2.1] at hs
    | waiting => simp [((Port.fits_waiting hp).1 h.fits).2.2.2.2.2.1] at hs
    | watching => simp [((Port.fits_watching hp).1 h.fits).2.2.2.2.2.1] at hs
    | down c => simp [((Port.fits_down hp).1 h.fits).2.2.2.1] at hs
  | cleared hp ht ho =>
    obtain ⟨hn, hlink, hr, hstop, -⟩ := (Port.fits_clearing hp).1 h.fits
    have howed : x.owed = .none := by
      have := hstop rfl
      cases h : x.owed <;> simp_all
    have hhub : x.holder = .hub ∧ x.seize = none := by
      rcases Port.clearingLink_iff.1 hlink with ⟨-, -, hidle⟩ | ⟨hh, hs, -⟩
      · rw [ht] at hidle; cases hidle
      · exact ⟨hh, hs⟩
    refine Port.Idles.judge_sound ?_ ?_
    · exact ⟨rfl, rfl, hn, hhub.1, hhub.2, howed, hr⟩
    · exact h.inRange
  | collidedDown hh hd =>
    refine ⟨?_, h.inRange⟩
    cases hp : x.phase with
    | down c =>
      obtain ⟨hn, he, -, hs, ho, hr⟩ := (Port.fits_down hp).1 h.fits
      exact Iff.mpr (Port.fits_down hp) ⟨hn, he, rfl, hs, ho, hr⟩
    | _ => simp [Port.isDown, hp] at hd

/-! ### A deadline, and every course -/

theorem Piece.stripped_wire (t : Tag) (x : Piece) : (x.stripped t).wire = x.wire := by
  unfold Piece.stripped
  split <;> rfl

/-- The piece on the wire is the head of the queue of a SENDING port. -/
theorem Port.onWire_of_piece {x : Port} {wire : List Byte} (hp : x.phase = .sending)
    (ht : x.tx = .piece wire) : x.onWire = x.queue.head? := by
  simp only [Port.onWire, hp, ht]

theorem Port.withdraw_queue_of_nil {x : Port} (t : Tag) (hq : x.queue = []) :
    (x.withdraw t).queue = [] := by
  have hwire : x.onWire = none := by
    unfold Port.onWire
    split
    · rw [hq]; rfl
    · rfl
  simp [Port.withdraw, Port.withdrawnQueue, Port.waitingPieces, hwire, hq]

/-- R85: a withdrawal leaves a sound port sound: the piece on the wire stays, without its link. -/
theorem Port.Sound.withdraw {x : Port} (h : x.Sound) (t : Tag) : (x.withdraw t).Sound := by
  refine ⟨?_, h.inRange⟩
  cases hp : x.phase with
  | clearing d =>
    obtain ⟨hn, hlink, hr, ho, he⟩ := (Port.fits_clearing hp).1 h.fits
    obtain ⟨hexchange, hpending, htimer⟩ := Port.noExchange_iff.1 hn
    refine Iff.mpr (Port.fits_clearing hp)
      ⟨Port.noExchange_iff.2 ⟨hexchange, by simp [Port.withdraw, hpending], htimer⟩, hlink, hr, ho, fun hd => ?_⟩
    obtain ⟨hq, hlimit⟩ := Port.emptied_iff.1 (he hd)
    exact Port.emptied_iff.2 ⟨Port.withdraw_queue_of_nil t hq, hlimit⟩
  | ready =>
    obtain ⟨hn, hlink, hrest⟩ := (Port.fits_ready hp).1 h.fits
    obtain ⟨hexchange, hpending, htimer⟩ := Port.noExchange_iff.1 hn
    refine Iff.mpr (Port.fits_ready hp)
      ⟨Port.noExchange_iff.2 ⟨hexchange, by simp [Port.withdraw, hpending], htimer⟩, ?_, hrest⟩
    have htx : (x.withdraw t).tx = x.tx := rfl
    unfold Port.readyLink at hlink ⊢
    rw [htx]
    cases ht : x.tx <;> simp only [ht] at hlink ⊢
    · rw [Port.withdraw_queue_of_nil t (List.isEmpty_iff.1 hlink)]
      rfl
    all_goals cases hlink
  | sending =>
    obtain ⟨he, htimer, hlink, hrest⟩ := (Port.fits_sending hp).1 h.fits
    refine Iff.mpr (Port.fits_sending hp) ⟨he, htimer, Port.sendingLink_iff.2 ?_, hrest⟩
    rcases Port.sendingLink_iff.1 hlink with ⟨head, rest, ht, hq, ha⟩ | ⟨ht, a, ha, hanswers⟩
    · refine .inl ⟨head.stripped t, rest.filter fun y => !y.linkedTo t, ?_, ?_, by simp [Port.withdraw, ha]⟩
      · rw [Piece.stripped_wire]
        exact ht
      · simp [Port.withdraw, Port.withdrawnQueue, Port.waitingPieces, Port.onWire_of_piece hp ht, hq]
    · refine .inr ⟨ht, a.stripped t, by simp [Port.withdraw, ha], ?_⟩
      unfold PendingAnswer.stripped
      split <;> exact hanswers
  | waiting =>
    obtain ⟨he, hpending, hrest⟩ := (Port.fits_waiting hp).1 h.fits
    exact Iff.mpr (Port.fits_waiting hp) ⟨he, by simp [Port.withdraw, hpending], hrest⟩
  | watching =>
    obtain ⟨he, hpending, hrest⟩ := (Port.fits_watching hp).1 h.fits
    exact Iff.mpr (Port.fits_watching hp) ⟨he, by simp [Port.withdraw, hpending], hrest⟩
  | down c =>
    obtain ⟨hn, he, hrest⟩ := (Port.fits_down hp).1 h.fits
    obtain ⟨hexchange, hpending, htimer⟩ := Port.noExchange_iff.1 hn
    obtain ⟨hq, hlimit⟩ := Port.emptied_iff.1 he
    exact Iff.mpr (Port.fits_down hp)
      ⟨Port.noExchange_iff.2 ⟨hexchange, by simp [Port.withdraw, hpending], htimer⟩,
        Port.emptied_iff.2 ⟨Port.withdraw_queue_of_nil t hq, hlimit⟩, hrest⟩

/-- R97: an exchange that becomes an orphan answers what it answered. -/
theorem Port.Sound.orphaned {x : Port} (h : x.Sound) : x.orphaned.Sound := by
  refine ⟨?_, h.inRange⟩
  have hfits : x.orphaned.fitsPhase = x.fitsPhase := by
    cases he : x.exchange <;>
      simp [Port.orphaned, Port.fitsPhase, Port.noExchange, Port.clearingLink, Port.readyLink,
        Port.sendingLink, Port.emptied, he]
  rw [hfits]
  exact h.fits

theorem Port.Sound.expiredBy {x : Port} (h : x.Sound) (t : Tag) (rs : List PortRecord) :
    (x.expiredBy t rs).Sound := by
  induction rs generalizing x with
  | nil => exact h
  | cons r rs ih =>
    refine ih (x := x.expire t r) ?_
    unfold Port.expire
    split
    · exact h.withdraw t
    · exact h.orphaned
    · exact h

theorem Port.reset_sound : Port.reset.Sound := ⟨rfl, rfl⟩

/-- Every course of a port leaves a sound one sound. -/
theorem Port.Sound.course {x y : Port} (h : x.Sound) {wanted : Bool} (hc : x.Course wanted y) :
    y.Sound := by
  have hrange := Port.inRange_iff.1 h.inRange
  cases hc with
  | same => exact h
  | moved hm => exact h.move hm
  | reset => exact Port.reset_sound
  | hubCleared =>
    unfold Port.hubCleared
    split
    · exact h.flushed_clears (by simp)
    next hl =>
      refine ⟨?_, h.inRange⟩
      obtain ⟨-, he, c, hp | hp⟩ := h.of_not_live (by simpa using hl)
      · obtain ⟨hn, he, ht, hs, -, hr⟩ := (Port.fits_down hp).1 h.fits
        exact Iff.mpr (Port.fits_down hp) ⟨hn, he, ht, hs, rfl, hr⟩
      · obtain ⟨hn, hlink, hr, -, -⟩ := (Port.fits_clearing hp).1 h.fits
        exact Iff.mpr (Port.fits_clearing hp)
          ⟨hn, hlink, hr, by simp, fun _ => he⟩
  | exchangeOpened a hp ht ha =>
    obtain ⟨-, -, hlink, -, hs, ho, -⟩ := (Port.fits_sending hp).1 h.fits
    refine ⟨Iff.mpr (Port.fits_waiting rfl) ⟨⟨a.opened, rfl, ?_⟩, rfl, rfl, rfl, rfl, hs, ho⟩, h.inRange⟩
    rcases Port.sendingLink_iff.1 hlink with ⟨_, _, hpiece, _⟩ | ⟨-, b, hb, hanswers⟩
    · rw [ht] at hpiece; cases hpiece
    · cases ha.symm.trans hb
      exact hanswers
  | exchangeEnded e hp he =>
    have hrest : x.tx = .idle ∧ x.seize = none ∧ x.owed = .none ∧ x.pendingAnswer = none := by
      rcases Port.receives_iff.1 hp with hp | hp
      · obtain ⟨-, ha, -, ht, -, hs, ho⟩ := (Port.fits_waiting hp).1 h.fits
        exact ⟨ht, hs, ho, ha⟩
      · obtain ⟨-, ha, -, ht, -, hs, ho⟩ := (Port.fits_watching hp).1 h.fits
        exact ⟨ht, hs, ho, ha⟩
    obtain ⟨ht, hs, ho, ha⟩ := hrest
    refine Port.Idles.judge_sound ?_ ?_
    · exact ⟨rfl, ht, Port.noExchange_iff.2 ⟨rfl, ha, rfl⟩, rfl, hs, ho, rfl⟩
    · exact Port.inRange_iff.2 ⟨Nat.zero_le 7, hrange.2⟩
  | timedOut n hp hn =>
    obtain ⟨-, -, -, -, hh, -, ho⟩ := (Port.fits_waiting hp).1 h.fits
    exact Port.failed_sound hh h.inRange fun hstop => absurd (ho.symm.trans hstop) (by simp)
  | collided hh hs hd => exact Port.failed_sound rfl h.inRange h.failureDest_of_stop
  | stopped hl => exact h.flushed_clears (by simp)
  | stopOwed hl hd =>
    refine ⟨?_, h.inRange⟩
    obtain ⟨-, he, c, hp | hp⟩ := h.of_not_live hl
    · simp [Port.isDown, hp] at hd
    · obtain ⟨hn, hlink, hr, -, -⟩ := (Port.fits_clearing hp).1 h.fits
      exact Iff.mpr (Port.fits_clearing hp)
        ⟨hn, hlink, hr, by simp, fun _ => he⟩
  | restarted hl => exact h.flushed_clears (by simp)
  | revived hl =>
    obtain ⟨hn, he, -⟩ := h.of_not_live hl
    exact h.clears rfl rfl rfl rfl rfl h.inRange hn he (by simp) (Nat.zero_le _)
  | answered ho =>
    refine ⟨?_, h.inRange⟩
    rcases hp : x.phase with d | _ | _ | _ | _ | c
    · obtain ⟨hn, hlink, hr, -, he⟩ := (Port.fits_clearing hp).1 h.fits
      exact Iff.mpr (Port.fits_clearing rfl) ⟨hn, hlink, hr, by simp, he⟩
    · simp [((Port.fits_ready hp).1 h.fits).2.2.2.2.1] at ho
    · simp [((Port.fits_sending hp).1 h.fits).2.2.2.2.2.1] at ho
    · simp [((Port.fits_waiting hp).1 h.fits).2.2.2.2.2.2] at ho
    · simp [((Port.fits_watching hp).1 h.fits).2.2.2.2.2.2] at ho
    · simp [((Port.fits_down hp).1 h.fits).2.2.2.2.1] at ho
  | wentDown c hp ht ho =>
    obtain ⟨hn, hlink, hr, -, he⟩ := (Port.fits_clearing hp).1 h.fits
    refine ⟨Iff.mpr (Port.fits_down rfl) ⟨hn, he (by simp), rfl, ?_, rfl, hr⟩, h.inRange⟩
    rcases Port.clearingLink_iff.1 hlink with ⟨-, -, hidle⟩ | ⟨-, hs, -⟩
    · rw [ht] at hidle; cases hidle
    · exact hs
  | admitted ps qs hl => exact h.append hl ps wanted
  | expired t rs => exact h.expiredBy t rs

theorem Port.tick_clearingLink (x : Port) : x.tick.clearingLink = x.clearingLink := by
  unfold Port.clearingLink
  simp only [Port.tick, tickTimer]
  cases x.holder <;> cases x.seize <;> cases x.tx <;> rfl

/-- A microsecond starts and stops no timer. -/
theorem Port.tick_fitsPhase (x : Port) : x.tick.fitsPhase = x.fitsPhase := by
  unfold Port.fitsPhase
  rw [x.tick_clearingLink]
  simp [Port.tick, tickTimer, Port.noExchange, Port.readyLink, Port.sendingLink, Port.emptied]

theorem Port.Sound.tick {x : Port} (h : x.Sound) : x.tick.Sound :=
  ⟨x.tick_fitsPhase.trans h.fits, h.inRange⟩

theorem State.portsSound_iff {s : State} : s.portsSound ↔ ∀ p, (s.port p).Sound :=
  forall_congr' fun _ => ⟨fun h => ⟨h.1, h.2⟩, fun h => ⟨h.fits, h.inRange⟩⟩

theorem State.Move.keeps_portsSound {s t : State} (h : s.Move t) (hs : s.portsSound) :
    t.portsSound := by
  rw [State.portsSound_iff] at hs ⊢
  intro p
  rcases h.course p with hc | ht
  · exact (hs p).course hc
  · rw [ht]
    split
    · exact hs p
    · exact (hs p).judge _

theorem State.tick_portsSound {s : State} (hs : s.portsSound) : s.tick.portsSound := by
  rw [State.portsSound_iff] at hs ⊢
  intro p
  rw [State.tick_port]
  exact (hs p).tick

/-- Settles O55: every course of a port keeps it sound, and so does what a SYNC-SET tells it. -/
theorem everyPortKeepsToItsState : Obligations.EveryPortKeepsToItsState :=
  fun _ _ hs hstep => step_keeps (P := State.portsSound) (fun _ _ => State.tick_portsSound)
    (fun _ _ hu => hu) (fun _ _ => State.Move.keeps_portsSound) hs hstep

end Sys2Proof.Machine

/-! SUPPORT and THEOREMS. Egress queues keep their limits, and a READY port serves its queue at once
(R83, R86). -/

namespace Sys2Proof.Machine

/-! ### What a course leaves in the queue -/

/-- The payloads of the pieces of a port's queue, oldest first. -/
def Port.payloads (x : Port) : List (List Byte) := x.queue.map Piece.payload

theorem Port.payloads_length (x : Port) : x.payloads.length = x.queue.length := List.length_map _

theorem Port.payloads_bytes (x : Port) : (x.payloads.map List.length).sum = queueBytes x.queue := by
  simp [Port.payloads, queueBytes, Function.comp_def]

theorem Port.judge_queue (x : Port) (wanted : Bool) : (x.judge wanted).queue = x.queue := by
  have h := congrArg Port.queue (x.judge_keeps wanted)
  exact h

theorem Port.judge_payloads (x : Port) (wanted : Bool) : (x.judge wanted).payloads = x.payloads := by
  simp only [Port.payloads, x.judge_queue]

theorem Port.afterPiece_queue (x : Port) (head : Piece) (rest : List Piece) :
    (x.afterPiece head rest).queue = rest := by
  unfold Port.afterPiece
  split
  · rfl
  · split <;> rfl

theorem Port.enterClearing_keeps (x : Port) (d : Destination) :
    (x.enterClearing d).phase = .clearing d ∧ (x.enterClearing d).queue = x.queue := by
  rw [Port.enterClearing_eq]
  exact ⟨rfl, rfl⟩

@[simp] theorem Piece.stripped_payload (t : Tag) (x : Piece) : (x.stripped t).payload = x.payload := by
  unfold Piece.stripped
  split <;> rfl

theorem Port.onWire_cases (x : Port) :
    x.onWire = none ∨ ∃ head rest, x.queue = head :: rest ∧ x.onWire = some head := by
  unfold Port.onWire
  split
  · cases x.queue with
    | nil => exact .inl rfl
    | cons head rest => exact .inr ⟨head, rest, rfl, rfl⟩
  · exact .inl rfl

/-- R85: a withdrawal takes pieces out of the queue and adds none. -/
theorem Port.withdraw_payloads (x : Port) (t : Tag) : (x.withdraw t).payloads.Sublist x.payloads := by
  unfold Port.payloads Port.withdraw Port.withdrawnQueue Port.waitingPieces
  rcases x.onWire_cases with hwire | ⟨head, rest, hq, hwire⟩
  · simpa [hwire] using List.filter_sublist.map Piece.payload
  · simpa [hwire, hq] using List.filter_sublist.map Piece.payload

theorem Port.expiredBy_payloads (x : Port) (t : Tag) (rs : List PortRecord) :
    (x.expiredBy t rs).payloads.Sublist x.payloads := by
  induction rs generalizing x with
  | nil => exact List.Sublist.refl _
  | cons r rs ih =>
    refine (ih (x.expire t r)).trans ?_
    unfold Port.expire
    split
    · exact x.withdraw_payloads t
    · exact List.Sublist.refl _
    · exact List.Sublist.refl _

theorem Port.Move.payloads {x y : Port} {wanted : Bool} (h : x.Move wanted y) :
    y.payloads.Sublist x.payloads := by
  have same {z : Port} (hz : z.queue = x.queue) : z.payloads.Sublist x.payloads := by
    rw [Port.payloads, hz]
    exact List.Sublist.refl _
  cases h with
  | sent wire head rest hp ht hq =>
    rw [Port.judge_payloads, Port.payloads, Port.afterPiece_queue, Port.payloads, hq]
    exact List.sublist_cons_self _ _
  | cleared => rw [Port.judge_payloads]; exact same rfl
  | _ => exact same rfl

/-- But for an admission, what a course leaves in the queue stood there before. -/
theorem Port.Course.payloads {x y : Port} {wanted : Bool} (h : x.Course wanted y) :
    y.payloads.Sublist x.payloads
      ∨ ∃ ps qs : List Piece, x.hasRoom qs = true ∧ ps.length = qs.length
          ∧ queueBytes ps = queueBytes qs ∧ y.queue = x.queue ++ ps := by
  have none {z : Port} (hz : z.queue = []) : z.payloads.Sublist x.payloads := by
    rw [Port.payloads, hz]
    exact List.nil_sublist _
  have same {z : Port} (hz : z.queue = x.queue) : z.payloads.Sublist x.payloads := by
    rw [Port.payloads, hz]
    exact List.Sublist.refl _
  cases h with
  | moved hm => exact .inl hm.payloads
  | reset => exact .inl (none rfl)
  | hubCleared =>
    unfold Port.hubCleared
    split
    · exact .inl (none (x.flushed.clearToward_keeps .ready).2.1)
    · exact .inl (same rfl)
  | exchangeEnded => exact .inl (by rw [Port.judge_payloads]; exact same rfl)
  | timedOut => exact .inl (none (Port.enterClearing_keeps _ _).2)
  | collided => exact .inl (none (Port.enterClearing_keeps _ _).2)
  | stopped => exact .inl (none (x.flushed.clearToward_keeps _).2.1)
  | restarted => exact .inl (none (x.flushed.clearToward_keeps _).2.1)
  | revived => exact .inl (same (x.clearToward_keeps .ready).2.1)
  | admitted ps qs hl hr hlen hbytes =>
    exact .inr ⟨ps, qs, hr, hlen, hbytes, Port.judge_queue _ _⟩
  | expired t rs => exact .inl (x.expiredBy_payloads t rs)
  | _ => exact .inl (same rfl)

/-! ### The limits of a queue -/

/-- R83: a queue within its limits. -/
def Port.Fits (x : Port) : Prop :=
  x.queue.length ≤ Config.pieceCapacity ∧ queueBytes x.queue ≤ Config.byteCapacity

theorem Port.Fits.of_payloads {x y : Port} (h : x.Fits) (hp : y.payloads.Sublist x.payloads) : y.Fits := by
  obtain ⟨hlen, hbytes⟩ := h
  refine ⟨?_, ?_⟩
  · rw [← y.payloads_length]
    exact (hp.length_le.trans x.payloads_length.le).trans hlen
  · rw [← y.payloads_bytes]
    have hsum := (hp.map List.length).sum_le_sum fun _ _ => Nat.zero_le _
    exact (hsum.trans x.payloads_bytes.le).trans hbytes

theorem Port.Fits.course {x y : Port} {wanted : Bool} (h : x.Fits) (hc : x.Course wanted y) : y.Fits := by
  rcases hc.payloads with hp | ⟨ps, qs, hroom, hlen, hbytes, hq⟩
  · exact h.of_payloads hp
  · obtain ⟨hxlen, hxbytes⟩ := h
    have hfree : qs.length ≤ x.freePieces ∧ queueBytes qs ≤ x.freeBytes := of_decide_eq_true hroom
    unfold Port.freePieces Port.freeBytes at hfree
    refine ⟨?_, ?_⟩
    · rw [hq, List.length_append]
      omega
    · have happend : queueBytes (x.queue ++ ps) = queueBytes x.queue + queueBytes ps := by
        simp [queueBytes]
      rw [hq, happend]
      omega

theorem State.Move.keeps_queuesFit {s t : State} (h : s.Move t) (hs : s.queuesFit) : t.queuesFit := by
  intro p
  rcases h.course p with hc | ht
  · exact Port.Fits.course (hs p) hc
  · rw [ht]
    split
    · exact hs p
    · rw [Port.judge_queue]
      exact hs p

/-! ### A READY port that sends nothing -/

/-- R86: a port, wanted to watch or not, that is READY and sends nothing has nothing to do. -/
def Port.Served (wanted : Bool) (x : Port) : Prop :=
  x.phase = .ready → x.tx = .idle → x.queue = [] ∧ wanted = false

theorem Port.served_of_phase {x : Port} {wanted : Bool} (h : x.phase ≠ .ready) : x.Served wanted :=
  fun hp => absurd hp h

/-- R86: a port that has judged is served. -/
theorem Port.judge_served (x : Port) (wanted : Bool) : (x.judge wanted).Served wanted := by
  intro hp ht
  rcases x.judge_cases wanted with h | ⟨hready, hidle, h⟩
  · rw [h] at hp ht ⊢
    rw [x.judge_of_ready wanted hp ht] at h
    unfold Port.readyToSend at h
    split at h
    · rw [← h] at hp; cases hp
    next hq =>
      cases wanted with
      | false => exact ⟨hq, rfl⟩
      | true => rw [← h] at ht; cases ht
  · rw [h] at hp ht ⊢
    unfold Port.readyToSend at hp ht ⊢
    split at hp
    · cases hp
    next hq =>
      cases wanted with
      | false => exact ⟨hq, rfl⟩
      | true => simp [hq] at ht

theorem Port.expiredBy_served {x : Port} {wanted : Bool} (h : x.Served wanted) (t : Tag)
    (rs : List PortRecord) : (x.expiredBy t rs).Served wanted := by
  induction rs generalizing x with
  | nil => exact h
  | cons r rs ih =>
    refine ih (x := x.expire t r) ?_
    unfold Port.expire
    split
    · intro hp ht
      obtain ⟨hq, hw⟩ := h hp ht
      exact ⟨Port.withdraw_queue_of_nil t hq, hw⟩
    · exact h
    · exact h

theorem Port.Move.served {x y : Port} {wanted : Bool} (hm : x.Move wanted y) (h : x.Served wanted) :
    y.Served wanted := by
  cases hm with
  | counted | configured | received => exact h
  | sent => exact Port.judge_served _ _
  | watchOpened => exact Port.served_of_phase (by simp [Port.openWatch, Port.lendLink])
  | passEnded d hp ht => exact Port.served_of_phase (by simp [Port.passEndedInClearing, Port.startSeize, hp])
  | seizeCompleted n hs => exact fun _ ht => absurd ht (by simp [Port.seizeCompleted])
  | cleared => exact Port.judge_served _ _
  | collidedDown hh hd =>
    refine Port.served_of_phase fun hp => ?_
    have hready : x.phase = .ready := hp
    simp [Port.isDown, hready] at hd

theorem Port.Course.served {x y : Port} {wanted : Bool} (hc : x.Course wanted y) (h : x.Served wanted) :
    y.Served wanted := by
  have clearing {z : Port} {d : Destination} (hz : z.phase = .clearing d) : z.Served wanted :=
    Port.served_of_phase (by simp [hz])
  cases hc with
  | same => exact h
  | moved hm => exact hm.served h
  | reset => exact Port.served_of_phase (by simp [Port.reset])
  | hubCleared =>
    unfold Port.hubCleared
    split
    · exact clearing (x.flushed.clearToward_keeps .ready).1
    · exact h
  | exchangeOpened => exact Port.served_of_phase (by simp [Port.openExchange, Port.lendLink])
  | exchangeEnded => exact Port.judge_served _ _
  | timedOut => exact clearing (Port.enterClearing_keeps _ _).1
  | collided => exact clearing (Port.enterClearing_keeps _ _).1
  | stopped => exact clearing (x.flushed.clearToward_keeps _).1
  | stopOwed => exact h
  | restarted => exact clearing (x.flushed.clearToward_keeps _).1
  | revived => exact clearing (x.clearToward_keeps _).1
  | answered => exact h
  | wentDown => exact Port.served_of_phase (by simp)
  | admitted => exact Port.judge_served _ _
  | expired t rs => exact Port.expiredBy_served h t rs

/-- A served port stays served when it is no longer wanted to watch. -/
theorem Port.Served.mono {x : Port} {w v : Bool} (h : x.Served w) (hw : v = true → w = true) :
    x.Served v := by
  intro hp ht
  obtain ⟨hq, hfalse⟩ := h hp ht
  cases v with
  | false => exact ⟨hq, rfl⟩
  | true => simp [hw rfl] at hfalse

theorem State.Move.keeps_noPortDawdles {s t : State} (h : s.Move t) (hs : s.noPortDawdles) :
    t.noPortDawdles := by
  intro p
  rcases h.groups with hg | hreset | ⟨a, mode, -, -, ht⟩
  · have hmono : t.wanted p = true → s.wanted p = true := State.Move.wanted_mono hg
    rcases h.course p with hc | hjudged
    · exact (hc.served (hs p)).mono hmono
    · rw [hjudged]
      split
      · exact Port.Served.mono (hs p) hmono
      · exact Port.judge_served _ _
  · have hfalse : t.wanted p = false := by
      simp [State.wanted, hreset, SyncGroup.reset, SyncGroup.armed]
    rcases h.course p with hc | hjudged
    · exact (hc.served (hs p)).mono (by simp [hfalse])
    · rw [hjudged]
      split
      · exact Port.Served.mono (hs p) (by simp [hfalse])
      · exact Port.judge_served _ _
  · have hwanted (u b : State) : (u.tellWatches b).wanted p = u.wanted p := by
      obtain ⟨_, hu⟩ := u.tellWatches_keeps b
      rw [hu, State.withPorts_wanted]
    rw [ht, State.tellWatches_port, hwanted]
    split
    next hw => rw [hw]; exact hs p
    next => exact Port.judge_served _ _

theorem State.tick_served {s : State} (hf : s.queuesFit) (hd : s.noPortDawdles) :
    s.tick.queuesFit ∧ s.tick.noPortDawdles := by
  refine ⟨fun p => ?_, fun p => ?_⟩
  · rw [State.tick_port]
    exact hf p
  · rw [State.tick_port, State.tick_wanted]
    exact hd p

/-- Settles O54: no course fills a queue over its limits, and every course that leaves a port READY lets
it judge what to do. -/
theorem queuesKeepTheirLimitsAndAreServed : Obligations.QueuesKeepTheirLimitsAndAreServed :=
  fun _ _ hf hd hstep => step_keeps (P := fun s => s.queuesFit ∧ s.noPortDawdles)
    (fun _ _ h => State.tick_served h.1 h.2) (fun _ _ hu => hu)
    (fun _ _ hm h => ⟨hm.keeps_queuesFit h.1, hm.keeps_noPortDawdles h.2⟩) ⟨hf, hd⟩ hstep

end Sys2Proof.Machine

/-! SUPPORT and THEOREMS. Shared slots, reservations, return turns and owed notices (R1, R16, R22, R81,
R133, R135, R141, R161, R164, R173). -/

namespace Sys2Proof.Machine

/-! ### Shared slots -/

/-- The shared slots that hold an entry. -/
def ReturnQueue.sharedHeld (q : ReturnQueue) : Nat := q.entries.countP fun e => e.slot == .shared

theorem ReturnQueue.sharedHeld_append (q : ReturnQueue) (es : List Entry) :
    ({ q with entries := q.entries ++ es }).sharedHeld
      = q.sharedHeld + es.countP fun e => e.slot == .shared :=
  List.countP_append

theorem ReturnQueue.sharedHeld_congr {q r : ReturnQueue} (h : r.entries = q.entries) :
    r.sharedHeld = q.sharedHeld := by
  simp only [ReturnQueue.sharedHeld, h]

/-- R133: an entry takes a free shared slot. -/
theorem ReturnQueue.room_of_free {q : ReturnQueue} (h : q.freeShared ≠ 0) :
    q.sharedHeld + q.reserved < Config.sharedSlots := by
  unfold ReturnQueue.freeShared at h
  unfold ReturnQueue.sharedHeld
  omega

theorem ReturnQueue.Grows.sharedHeld {q r : ReturnQueue} (h : q.Grows r) : r.sharedHeld = q.sharedHeld := by
  obtain ⟨es, hes, hslots⟩ := h.entries
  have hnone : es.countP (fun e => e.slot == .shared) = 0 :=
    List.countP_eq_zero.2 fun e he => by simpa using hslots e he
  rw [ReturnQueue.sharedHeld, hes, List.countP_append, hnone, Nat.add_zero]
  rfl

/-- Entries that asked for free shared slots join at the young end. -/
structure ReturnQueue.Asks (q r : ReturnQueue) : Prop where
  reserved : r.reserved = q.reserved
  budget : r.budget = q.budget
  entries : ∃ es, r.entries = q.entries ++ es ∧ ∀ e ∈ es, e.slot = .shared
  room : q.sharedHeld + q.reserved ≤ Config.sharedSlots → r.sharedHeld + r.reserved ≤ Config.sharedSlots

theorem ReturnQueue.Asks.refl (q : ReturnQueue) : q.Asks q := ⟨rfl, rfl, ⟨[], by simp⟩, id⟩

theorem ReturnQueue.Asks.trans {q r u : ReturnQueue} (h : q.Asks r) (k : r.Asks u) : q.Asks u := by
  obtain ⟨es, hes, hslots⟩ := h.entries
  obtain ⟨fs, hfs, kslots⟩ := k.entries
  refine ⟨k.reserved.trans h.reserved, k.budget.trans h.budget, ⟨es ++ fs, by simp [hfs, hes], ?_⟩,
    k.room ∘ h.room⟩
  intro e he
  exact (List.mem_append.1 he).elim (hslots e) (kslots e)

/-- R133: an entry that takes a free shared slot. -/
theorem ReturnQueue.push_asks {q : ReturnQueue} {e : Entry} (he : e.slot = .shared)
    (hf : q.freeShared ≠ 0) : q.Asks (q.push e) := by
  refine ⟨rfl, rfl, ⟨[e], rfl, by simpa using he⟩, fun _ => ?_⟩
  have hroom := ReturnQueue.room_of_free hf
  have hheld : (q.push e).sharedHeld = q.sharedHeld + 1 :=
    (q.sharedHeld_append [e]).trans (by simp [he])
  rw [hheld, ReturnQueue.push_reserved]
  omega

/-- R136: a request takes a free shared slot, or is lost. -/
theorem ReturnQueue.asked_asks (q : ReturnQueue) {e : Entry} (he : e.slot = .shared) (c : ReturnCounts) :
    q.Asks (q.asked e c) := by
  by_cases hf : q.freeShared = 0
  · have h : q.asked e c = (q.lose fun _ => c) := by
      rw [ReturnQueue.asked, if_pos hf]
      rfl
    rw [h]
    exact ⟨rfl, rfl, ⟨[], by simp⟩, id⟩
  · have h : q.asked e c = q.push e := by
      rw [ReturnQueue.asked, if_neg hf]
      rfl
    rw [h]
    exact ReturnQueue.push_asks he hf

theorem State.requestsEvent_asks (s : State) (b : List Byte) : s.ret.Asks (s.requestsEvent b).ret :=
  s.ret.asked_asks rfl _

/-- R155: the loss of a member requests at most one event. -/
theorem State.memberDown_asks (s : State) (p : PortId) : s.ret.Asks (s.memberDown p).ret := by
  rcases s.memberDown_cases p with h | ⟨g, -, -, h | h⟩ <;> rw [h]
  · exact .refl _
  · rw [State.groupOff_eq]
    exact s.requestsEvent_asks _
  · exact s.requestsEvent_asks _

theorem State.toldDown_asks (s : State) (p : PortId) (c : Cause) : s.ret.Asks (s.toldDown p c).ret :=
  (State.requestsEvent_asks (s.setPort p { s.port p with phase := .down c, tx := .idle }) _).trans
    (State.memberDown_asks _ p)

/-! ### Slots and reservations -/

theorem State.slotsSound_iff {s : State} : s.slotsSound
    ↔ s.ret.sharedHeld + s.ret.reserved ≤ Config.sharedSlots
      ∧ s.ret.reserved = s.agent.queue.length + s.agent.inExecution.toList.length
      ∧ s.agent.queue.length ≤ Config.commandQueueCapacity := Iff.rfl

/-- Slots stay sound while the agent holds what it held, and no more slots are taken than are free. -/
theorem State.slotsSound_of {s t : State} (hs : s.slotsSound) (hr : t.ret.reserved = s.ret.reserved)
    (ha : t.agent = s.agent) (hroom : t.ret.sharedHeld + t.ret.reserved ≤ Config.sharedSlots) :
    t.slotsSound := by
  rw [State.slotsSound_iff] at hs ⊢
  rw [ha, hr]
  exact ⟨hr ▸ hroom, hs.2⟩

theorem State.slotsSound_of_local {s t : State} (hs : s.slotsSound) (h : s.Local t) : t.slotsSound :=
  State.slotsSound_of hs h.ret.reserved h.agent (by
    rw [h.ret.sharedHeld, h.ret.reserved]; exact hs.1)

theorem State.slotsSound_of_asks {s t : State} (hs : s.slotsSound) (h : s.ret.Asks t.ret)
    (ha : t.agent = s.agent) : t.slotsSound :=
  State.slotsSound_of hs h.reserved ha (h.room hs.1)

/-- R135: an answer uses up the reservation of its command. -/
theorem ReturnQueue.answered_room {q : ReturnQueue} (c : MgmtCommand) (status : Byte)
    (result : List Byte) (hr : 1 ≤ q.reserved) (hq : q.sharedHeld + q.reserved ≤ Config.sharedSlots) :
    (q.answered c status result).sharedHeld + (q.answered c status result).reserved
      ≤ Config.sharedSlots := by
  have hheld : (q.answered c status result).sharedHeld = q.sharedHeld + 1 :=
    (q.sharedHeld_append _).trans (by simp)
  have hreserved : (q.answered c status result).reserved = q.reserved - 1 := rfl
  omega

/-- R166: the answer of the next command gives up its place in the agent's queue. -/
theorem State.slotsSound_taken {s : State} (hs : s.slotsSound) {c : MgmtCommand}
    {rest : List MgmtCommand} (h : s.offers c rest) (status : Byte) (result : List Byte) :
    (s.taken c rest status result).slotsSound := by
  rw [State.slotsSound_iff] at hs ⊢
  obtain ⟨hroom, hreserved, hlen⟩ := hs
  obtain ⟨hnone, hqueue⟩ := h
  simp only [hqueue, hnone, List.length_cons, Option.toList_none, List.length_nil] at hreserved hlen
  have hafter : (s.ret.answered c status result).reserved = s.ret.reserved - 1 := rfl
  refine ⟨ReturnQueue.answered_room c status result (by omega) hroom, ?_, ?_⟩
  · change (s.ret.answered c status result).reserved = rest.length + 0
    omega
  · change rest.length ≤ _
    omega

/-- R164: a command that is held keeps its reservation. -/
theorem State.slotsSound_held {s : State} (hs : s.slotsSound) {c : MgmtCommand}
    {rest : List MgmtCommand} (h : s.offers c rest) : (s.held c rest).slotsSound := by
  rw [State.slotsSound_iff] at hs ⊢
  obtain ⟨hroom, hreserved, hlen⟩ := hs
  obtain ⟨hnone, hqueue⟩ := h
  simp only [hqueue, hnone, List.length_cons, Option.toList_none, List.length_nil] at hreserved hlen
  exact ⟨hroom, hreserved, (Nat.le_succ _).trans hlen⟩

/-- R164: the command in execution is answered. -/
theorem State.slotsSound_deferredDone {s : State} (hs : s.slotsSound) (b : Byte) :
    (s.deferredDone b).slotsSound := by
  cases hc : s.agent.inExecution with
  | none => rw [s.deferredDone_of_none b hc]; exact hs
  | some c =>
    rw [s.deferredDone_of_held c b hc]
    rw [State.slotsSound_iff] at hs ⊢
    obtain ⟨hroom, hreserved, hlen⟩ := hs
    simp only [hc, Option.toList_some, List.length_cons, List.length_nil] at hreserved
    have hafter : (s.ret.answered c 0 [b]).reserved = s.ret.reserved - 1 := rfl
    refine ⟨ReturnQueue.answered_room c 0 [b] (by omega) hroom, ?_, hlen⟩
    change (s.ret.answered c 0 [b]).reserved = s.agent.queue.length + 0
    omega

/-- R161: an accepted command reserves a free shared slot. -/
theorem State.slotsSound_accepted {s : State} (hs : s.slotsSound) (c : MgmtCommand)
    (hf : s.ret.freeShared ≠ 0) (hq : s.agent.queue.length < Config.commandQueueCapacity) :
    (s.acceptCommand c).slotsSound := by
  rw [State.slotsSound_iff] at hs ⊢
  obtain ⟨-, hreserved, -⟩ := hs
  have hroom := ReturnQueue.room_of_free hf
  refine ⟨hroom, ?_, ?_⟩
  · change s.ret.reserved + 1 = (s.agent.queue ++ [c]).length + s.agent.inExecution.toList.length
    simp only [List.length_append, List.length_singleton]
    omega
  · change (s.agent.queue ++ [c]).length ≤ _
    simpa using hq

theorem ReturnQueue.sharedHeld_tail_le {q : ReturnQueue} {e : Entry} {rest : List Entry}
    (he : q.entries = e :: rest) : rest.countP (fun e => e.slot == .shared) ≤ q.sharedHeld := by
  rw [ReturnQueue.sharedHeld, he]
  exact (List.sublist_cons_self e rest).countP_le

theorem State.entrySent_ret (s : State) (x : Turn) (e : Entry) (rest : List Entry) :
    (s.entrySent x e rest).ret = ({ s.ret with entries := rest }).judged := by
  simp only [State.entrySent, State.releaseFor]
  split <;> rfl

theorem State.entrySent_agent (s : State) (x : Turn) (e : Entry) (rest : List Entry) :
    (s.entrySent x e rest).agent = s.agent := by
  simp only [State.entrySent, State.releaseFor]
  split <;> rfl

theorem State.tellWatches_ret (s b : State) : (s.tellWatches b).ret = s.ret := by
  obtain ⟨_, h⟩ := s.tellWatches_keeps b
  rw [h]
  rfl

theorem State.tellWatches_agent_eq (s b : State) : (s.tellWatches b).agent = s.agent := by
  obtain ⟨_, h⟩ := s.tellWatches_keeps b
  rw [h]
  rfl

theorem State.Move.keeps_slotsSound {s t : State} (h : s.Move t) (hs : s.slotsSound) : t.slotsSound := by
  cases h with
  | reset => exact State.slotsSound_iff.2 ⟨Nat.zero_le _, rfl, Nat.zero_le _⟩
  | hubCleared => exact State.slotsSound_iff.2 ⟨Nat.zero_le _, rfl, Nat.zero_le _⟩
  | entrySent x e rest hd hx hp he =>
    refine State.slotsSound_of hs ?_ (s.entrySent_agent x e rest) ?_
    · rw [s.entrySent_ret]
      rfl
    · rw [s.entrySent_ret]
      exact (Nat.add_le_add_right (ReturnQueue.sharedHeld_tail_le he) _).trans hs.1
  | noted q he hr hb =>
    refine State.slotsSound_of hs hr rfl ?_
    change q.sharedHeld + q.reserved ≤ _
    rw [ReturnQueue.sharedHeld_congr he, hr]
    exact hs.1
  | joined e he hf => exact State.slotsSound_of_asks hs (ReturnQueue.push_asks he hf) rfl
  | accepted c hf hq => exact State.slotsSound_accepted hs c hf hq
  | answered c rest status result h => exact State.slotsSound_taken hs h status result
  | regrouped a mode =>
    refine State.slotsSound_of hs ?_ (State.tellWatches_agent_eq _ _) ?_
    · rw [State.tellWatches_ret]
      rfl
    · rw [State.tellWatches_ret]
      exact hs.1
  | stopHeld c rest p h =>
    exact State.slotsSound_of_local (State.slotsSound_held hs h) ((s.held c rest).stopPort_local p)
  | restartHeld c rest p h =>
    exact State.slotsSound_of_local (State.slotsSound_held hs h) ((s.held c rest).restartPort_local p)
  | restartAnswered p b =>
    exact State.slotsSound_deferredDone (State.slotsSound_of_local hs (s.setPort_local p _)) b
  | wentDown p c =>
    have htold : (s.toldDown p c).slotsSound :=
      State.slotsSound_of_asks hs (s.toldDown_asks p c) (s.toldDown_keeps p c).2.2.2.1
    rw [State.goDown_eq]
    split
    · exact State.slotsSound_deferredDone (State.slotsSound_of_local htold (State.setPort_local _ p _)) _
    · exact htold
  | linked h => exact State.slotsSound_of_local hs h.keeps
  | _ => exact hs

/-! ### The upstream port and its turn -/

theorem State.upstreamFits_iff {s : State} : s.upstreamFits = true
    ↔ (s.upstream.direction = .follower ∧ s.upstream.turn = none
        ∧ ∀ h, s.upstream.inProgress = some h →
            s.upstream.rx = .inBurst ∧ 1 ≤ h.length ∧ h.length ≤ Config.maxLength)
      ∨ ∃ x, s.upstream.direction = .holder ∧ s.upstream.turn = some x
        ∧ x.sound s.ret.entries = true ∧ s.upstream.rx = .resting ∧ s.upstream.inProgress = none := by
  unfold State.upstreamFits
  cases hd : s.upstream.direction <;> cases ht : s.upstream.turn <;>
    simp [Option.all_eq_true, and_assoc]

/-- A turn stays sound when entries join at the young end. -/
theorem Turn.sound_append {x : Turn} {entries : List Entry} (h : x.sound entries = true)
    (es : List Entry) : x.sound (entries ++ es) = true := by
  unfold Turn.sound at h ⊢
  cases hp : x.phase <;> simp only [hp] at h ⊢
  case room => exact h
  case entry =>
    cases entries with
    | nil => cases h
    | cons head rest => exact h
  case closing => exact h

/-- R140: what a turn sends next fits it. -/
theorem nextInTurn_sound {x : Turn} (h : x.sent ≤ x.budget) (entries : List Entry) :
    (nextInTurn x entries).sound entries = true := by
  unfold nextInTurn
  split
  next hlt =>
    cases entries with
    | nil => simpa [Turn.sound] using h
    | cons e rest => simpa [Turn.sound] using hlt
  next => simpa [Turn.sound] using h

/-- The upstream port stays as it is, entries join at the young end, and the settings are as they were. -/
theorem State.upstreamSound_of {s t : State} (hs : s.upstreamSound) (hup : t.upstream = s.upstream)
    (hes : ∃ es, t.ret.entries = s.ret.entries ++ es) (hb : t.ret.budget = s.ret.budget)
    (hd : t.txns.deadlineMs = s.txns.deadlineMs) : t.upstreamSound := by
  obtain ⟨hfits, hbudget⟩ := hs
  refine ⟨?_, ?_⟩
  · obtain ⟨es, hes⟩ := hes
    rw [State.upstreamFits_iff] at hfits ⊢
    rw [hup, hes]
    refine hfits.imp_right ?_
    rintro ⟨x, hdir, hturn, hsound, hrest⟩
    exact ⟨x, hdir, hturn, Turn.sound_append hsound es, hrest⟩
  · rw [hb, hd]
    exact hbudget

theorem State.upstreamSound_of_local {s t : State} (hs : s.upstreamSound) (h : s.Local t) :
    t.upstreamSound := by
  obtain ⟨es, hes, -⟩ := h.ret.entries
  exact State.upstreamSound_of hs h.upstream ⟨es, hes⟩ h.ret.budget h.deadlineMs

theorem State.upstreamSound_deferredDone {s : State} (hs : s.upstreamSound) (b : Byte) :
    (s.deferredDone b).upstreamSound := by
  cases hc : s.agent.inExecution with
  | none => rw [s.deferredDone_of_none b hc]; exact hs
  | some c =>
    rw [s.deferredDone_of_held c b hc]
    exact State.upstreamSound_of hs rfl ⟨_, rfl⟩ rfl rfl

theorem State.Move.keeps_upstreamSound {s t : State} (h : s.Move t) (hs : s.upstreamSound) :
    t.upstreamSound := by
  have same {u : State} (hup : u.upstream = s.upstream) (hret : u.ret.entries = s.ret.entries)
      (hb : u.ret.budget = s.ret.budget) (hd : u.txns.deadlineMs = s.txns.deadlineMs) :
      u.upstreamSound := State.upstreamSound_of hs hup ⟨[], by simp [hret]⟩ hb hd
  have hfits := State.upstreamFits_iff.1 hs.1
  -- what a FOLLOWER holds, and what a HOLDER holds
  have follower (hd : s.upstream.direction = .follower) : s.upstream.turn = none
      ∧ ∀ h, s.upstream.inProgress = some h →
          s.upstream.rx = .inBurst ∧ 1 ≤ h.length ∧ h.length ≤ Config.maxLength := by
    rcases hfits with ⟨-, hrest⟩ | ⟨_, hholder, -⟩
    · exact hrest
    · rw [hd] at hholder; cases hholder
  have holder (hd : s.upstream.direction = .holder) {x : Turn} (hx : s.upstream.turn = some x) :
      x.sound s.ret.entries = true ∧ s.upstream.rx = .resting ∧ s.upstream.inProgress = none := by
    rcases hfits with ⟨hfollower, -⟩ | ⟨y, -, hy, hrest⟩
    · rw [hd] at hfollower; cases hfollower
    · rw [hx] at hy; cases hy; exact hrest
  cases h with
  | reset =>
    have hranges : 1 ≤ State.reset.ret.budget ∧ State.reset.ret.budget ≤ 32
        ∧ State.reset.txns.deadlineMs ≤ 1000 := by decide
    exact ⟨rfl, hranges⟩
  | hubCleared hd =>
    obtain ⟨hturn, hprogress⟩ := follower hd
    exact ⟨State.upstreamFits_iff.2 (.inl ⟨hd, hturn, hprogress⟩), hs.2⟩
  | upstreamCounted f => exact ⟨hs.1, hs.2⟩
  | framed rx hd =>
    obtain ⟨hturn, -⟩ := follower hd
    exact ⟨State.upstreamFits_iff.2 (.inl ⟨hd, hturn, fun _ h => nomatch h⟩), hs.2⟩
  | headerTaken h hd hr hl =>
    obtain ⟨hturn, -⟩ := follower hd
    refine ⟨State.upstreamFits_iff.2 (.inl ⟨hd, hturn, fun k hk => ?_⟩), hs.2⟩
    cases hk
    exact ⟨hr, hl⟩
  | turnStarted hd hr =>
    obtain ⟨-, hprogress⟩ := follower hd
    have hnone : s.upstream.inProgress = none := by
      cases hk : s.upstream.inProgress with
      | none => rfl
      | some k => rw [hr] at hprogress; exact absurd (hprogress k hk).1 (by simp)
    exact ⟨State.upstreamFits_iff.2 (.inr ⟨_, rfl, rfl, rfl, hr, hnone⟩), hs.2⟩
  | turnEnded => exact ⟨State.upstreamFits_iff.2 (.inl ⟨rfl, rfl, fun _ h => nomatch h⟩), hs.2⟩
  | roomSent x hd hx hp =>
    obtain ⟨hsound, hrest⟩ := holder hd hx
    have hsent : x.sent = 0 := by simpa [Turn.sound, hp] using hsound
    exact ⟨State.upstreamFits_iff.2 (.inr ⟨_, hd, rfl, nextInTurn_sound (by omega) _, hrest⟩), hs.2⟩
  | entrySent x e rest hd hx hp he =>
    obtain ⟨hsound, hrest⟩ := holder hd hx
    have hlt : x.sent < x.budget := by
      simp only [Turn.sound, hp, he, Bool.and_eq_true, decide_eq_true_eq] at hsound
      exact hsound.1
    have hrelease := State.releaseFor_keeps (s.withRet ({ s.ret with entries := rest }).judged) e
    obtain ⟨-, -, -, -, -, hms, hup⟩ := hrelease
    have hret := s.entrySent_ret x e rest
    refine ⟨State.upstreamFits_iff.2 (.inr ⟨nextInTurn { x with sent := x.sent + 1 } rest, ?_, rfl, ?_, ?_, ?_⟩),
      ?_, ?_, ?_⟩
    · exact (congrArg Upstream.direction hup).trans hd
    · rw [hret]
      exact nextInTurn_sound (x := { x with sent := x.sent + 1 }) hlt _
    · exact (congrArg Upstream.rx hup).trans hrest.1
    · exact (congrArg Upstream.inProgress hup).trans hrest.2
    · rw [hret]; exact hs.2.1
    · rw [hret]; exact hs.2.2.1
    · exact hms.le.trans hs.2.2.2
  | noted q he hr hb => exact same rfl he hb rfl
  | joined e => exact State.upstreamSound_of hs rfl ⟨[e], rfl⟩ rfl rfl
  | answered => exact State.upstreamSound_of hs rfl ⟨_, rfl⟩ rfl rfl
  | configured a ha => exact ⟨hs.1, ha⟩
  | regrouped a mode =>
    obtain ⟨_, h⟩ := State.tellWatches_keeps
      (s.setGroup a.group { (s.group a.group).configured a with mode := mode }) s
    rw [h]
    exact same rfl rfl rfl rfl
  | stopHeld c rest p =>
    exact State.upstreamSound_of_local (s := s.held c rest) hs ((s.held c rest).stopPort_local p)
  | restartHeld c rest p =>
    exact State.upstreamSound_of_local (s := s.held c rest) hs ((s.held c rest).restartPort_local p)
  | restartAnswered p b =>
    exact State.upstreamSound_deferredDone (State.upstreamSound_of_local hs (s.setPort_local p _)) b
  | wentDown p c =>
    have hasks := s.toldDown_asks p c
    obtain ⟨es, hes, -⟩ := hasks.entries
    obtain ⟨hup, -, htxns, -⟩ := s.toldDown_keeps p c
    have htold : (s.toldDown p c).upstreamSound :=
      State.upstreamSound_of hs hup ⟨es, hes⟩ hasks.budget (congrArg TransactionTable.deadlineMs htxns)
    rw [State.goDown_eq]
    split
    · exact State.upstreamSound_deferredDone (State.upstreamSound_of_local htold (State.setPort_local _ p _)) _
    · exact htold
  | linked h => exact State.upstreamSound_of_local hs h.keeps
  | _ => exact same rfl rfl rfl rfl

end Sys2Proof.Machine

/-! SUPPORT and THEOREMS. The notices that ports owe the agent (R81, R161, R164), and the shared part of
every step. -/

namespace Sys2Proof.Machine

/-! ### What leaves a port's notice as it is -/

theorem Port.judge_owed (x : Port) (wanted : Bool) : (x.judge wanted).owed = x.owed := by
  have h := congrArg Port.owed (x.judge_keeps wanted)
  exact h

theorem Port.afterPiece_owed (x : Port) (head : Piece) (rest : List Piece) :
    (x.afterPiece head rest).owed = x.owed := by
  unfold Port.afterPiece
  split
  · rfl
  · split <;> rfl

theorem Port.failed_owed (x : Port) : x.failed.owed = x.owed := by
  rw [Port.failed, Port.enterClearing_eq]
  rfl

theorem Port.expiredBy_owed (x : Port) (t : Tag) (rs : List PortRecord) :
    (x.expiredBy t rs).owed = x.owed := by
  induction rs generalizing x with
  | nil => rfl
  | cons r rs ih =>
    refine (ih (x.expire t r)).trans ?_
    unfold Port.expire
    split <;> rfl

theorem Port.Move.owed {x y : Port} {wanted : Bool} (h : x.Move wanted y) : y.owed = x.owed := by
  cases h with
  | sent => rw [Port.judge_owed, Port.afterPiece_owed]
  | cleared => rw [Port.judge_owed]
  | _ => rfl

/-- A write of a port that keeps its notice keeps that of every port. -/
theorem State.setPort_owed {s : State} {p : PortId} {x : Port} (h : x.owed = (s.port p).owed) (q : PortId) :
    ((s.setPort p x).port q).owed = (s.port q).owed := by
  rw [State.setPort_port]
  split
  next hq => subst hq; exact h
  next => rfl

theorem State.LinkMove.owed {s t : State} (h : s.LinkMove t) (q : PortId) :
    (t.port q).owed = (s.port q).owed := by
  cases h with
  | ported p x hx => exact State.setPort_owed hx.owed q
  | exchangeOpened p a hp ht ha =>
    rw [State.openExchange_port]
    refine State.setPort_owed ?_ q
    rfl
  | exchangeEnded p e hp he =>
    refine (State.setPort_owed (Port.judge_owed _ _) q).trans ?_
    rw [State.handResult_port]
    refine State.setPort_owed ?_ q
    rfl
  | timedOut p n hp hn =>
    rw [State.failPort_port]
    refine State.setPort_owed ?_ q
    exact Port.failed_owed _
  | collided p hh hs hd =>
    rw [State.failPort_port]
    refine State.setPort_owed ?_ q
    exact Port.failed_owed _
  | admitted kind h payload members out fields hl hh ht hr =>
    rcases State.admitPacket_port_cases s h (kind.tagged h) members _
      (s.sliceFor_nodup kind h payload members out fields) q with ⟨_, -, -, hq⟩ | ⟨-, hq⟩
    · rw [hq, Port.judge_owed]
      rfl
    · rw [hq]
  | expired t x hx ho =>
    rw [State.expireRecord, State.complete_port, State.expirePorts_port]
    exact Port.expiredBy_owed _ _ _

/-! ### The port that is owed, and the command held -/

theorem byte_port_inj {p q : PortId} (h : byte p = byte q) : p = q := by
  revert p q
  decide

theorem State.noticesOwed_iff {s : State} : s.noticesOwed
    ↔ (∀ p, (s.port p).owed ≠ .none →
        ∃ c, s.agent.inExecution = some c ∧ c.payload = [(s.port p).owed.commandCode, byte p])
      ∧ (s.agent.inExecution.isSome = true → ∃ p, (s.port p).owed ≠ .none) := by
  refine and_congr_left' (forall₂_congr fun p _ => ?_)
  cases s.agent.inExecution <;> simp

/-- Notices stay owed while the ports and the agent keep what they had. -/
theorem State.noticesOwed_of {s t : State} (hs : s.noticesOwed)
    (hports : ∀ q, (t.port q).owed = (s.port q).owed)
    (ha : t.agent.inExecution = s.agent.inExecution) : t.noticesOwed := by
  rw [State.noticesOwed_iff] at hs ⊢
  simp only [hports, ha]
  exact hs

/-- Without a command held, no port owes a notice. -/
theorem State.noticesOwed.none_of_idle {s : State} (hs : s.noticesOwed)
    (ha : s.agent.inExecution = none) (p : PortId) : (s.port p).owed = .none := by
  by_contra h
  obtain ⟨c, hc, -⟩ := (State.noticesOwed_iff.1 hs).1 p h
  rw [ha] at hc
  cases hc

/-- Two ports never owe a notice at once. -/
theorem State.noticesOwed.unique {s : State} (hs : s.noticesOwed) {p q : PortId}
    (hp : (s.port p).owed ≠ .none) (hq : (s.port q).owed ≠ .none) : q = p := by
  obtain ⟨hall, -⟩ := State.noticesOwed_iff.1 hs
  obtain ⟨c, hc, hcp⟩ := hall p hp
  obtain ⟨d, hd, hdq⟩ := hall q hq
  cases hc.symm.trans hd
  rw [hcp] at hdq
  simp only [List.cons.injEq, and_true] at hdq
  exact (byte_port_inj hdq.2).symm

/-- R164: a deferred command is held for the port that it names. -/
theorem State.noticesOwed_held {s t : State} (hs : s.noticesOwed) (ha : s.agent.inExecution = none)
    {c : MgmtCommand} {p : PortId} (ht : t.agent.inExecution = some c)
    (hp : (t.port p).owed ≠ .none) (hc : c.payload = [(t.port p).owed.commandCode, byte p])
    (hports : ∀ q, q ≠ p → t.port q = s.port q) : t.noticesOwed := by
  refine State.noticesOwed_iff.2 ⟨fun q hq => ?_, fun _ => ⟨p, hp⟩⟩
  by_cases h : q = p
  · subst h
    exact ⟨c, ht, hc⟩
  · rw [hports q h] at hq
    exact absurd (hs.none_of_idle ha q) hq

/-- R164: the command held is answered, and its port owes no more. -/
theorem State.noticesOwed_answered {s t : State} (hs : s.noticesOwed) {p : PortId}
    (ho : (s.port p).owed ≠ .none) (hp : (t.port p).owed = .none)
    (hports : ∀ q, q ≠ p → (t.port q).owed = (s.port q).owed) (ha : t.agent.inExecution = none) :
    t.noticesOwed := by
  refine State.noticesOwed_iff.2 ⟨fun q hq => ?_, fun h => by simp [ha] at h⟩
  by_cases h : q = p
  · subst h
    exact absurd hp hq
  · rw [hports q h] at hq
    exact absurd (hs.unique ho hq) h

theorem State.deferredDone_inExecution (s : State) (b : Byte) :
    (s.deferredDone b).agent.inExecution = none := by
  cases hc : s.agent.inExecution with
  | none => rw [s.deferredDone_of_none b hc, hc]
  | some c => rw [s.deferredDone_of_held c b hc]

theorem Port.hubCleared_owed (x : Port) : x.hubCleared.owed = .none := by
  unfold Port.hubCleared
  split <;> rfl

theorem State.hubCleared_port (s : State) (q : PortId) : s.hubCleared.port q = (s.port q).hubCleared :=
  forFour_getElem (fun p => (s.port p).hubCleared) q

theorem State.reset_port (q : PortId) : State.reset.port q = .reset := by
  match q with
  | 0 | 1 | 2 | 3 => rfl

theorem State.Move.keeps_noticesOwed {s t : State} (h : s.Move t) (hs : s.noticesOwed) :
    t.noticesOwed := by
  have none_owed {u : State} (hp : ∀ q, (u.port q).owed = .none) (ha : u.agent.inExecution = none) :
      u.noticesOwed :=
    State.noticesOwed_iff.2 ⟨fun q hq => absurd (hp q) hq, fun h => by simp [ha] at h⟩
  cases h with
  | reset =>
    refine none_owed (fun q => ?_) rfl
    exact (congrArg Port.owed (State.reset_port q)).trans rfl
  | hubCleared => exact none_owed (fun q => by rw [State.hubCleared_port, Port.hubCleared_owed]) rfl
  | entrySent x e rest =>
    have hport (q : PortId) : (s.entrySent x e rest).port q = s.port q :=
      State.port_eq_of_ports (s := s.withRet _) (State.releaseFor_keeps _ e).2.1 q
    exact State.noticesOwed_of hs (fun q => by rw [hport]) (by rw [State.entrySent_agent])
  | answered c rest status result h => exact State.noticesOwed_of hs (fun _ => rfl) h.1.symm
  | regrouped a mode =>
    refine State.noticesOwed_of hs (fun q => ?_) (by rw [State.tellWatches_agent_eq]; rfl)
    rw [State.tellWatches_port]
    split
    · rfl
    · exact Port.judge_owed _ _
  | stopHeld c rest p h hc hd =>
    have howed : (((s.held c rest).stopPort p).port p).owed = .stop := by
      rw [State.stopPort_port, State.setPort_port_same]
      split <;> rfl
    refine State.noticesOwed_held hs h.1 (c := c) (p := p) ?_ ?_ ?_ fun q hq => ?_
    · rw [((s.held c rest).stopPort_local p).agent]
      rfl
    · rw [howed]; simp
    · rw [howed]; exact hc
    · rw [State.stopPort_port, State.setPort_port_ne _ _ hq]
      rfl
  | restartHeld c rest p h hc =>
    have howed : (((s.held c rest).restartPort p).port p).owed = .restart := by
      rw [State.restartPort_port, State.setPort_port_same]
      split <;> rfl
    refine State.noticesOwed_held hs h.1 (c := c) (p := p) ?_ ?_ ?_ fun q hq => ?_
    · rw [((s.held c rest).restartPort_local p).agent]
      rfl
    · rw [howed]; simp
    · rw [howed]; exact hc
    · rw [State.restartPort_port, State.setPort_port_ne _ _ hq]
      rfl
  | restartAnswered p b ho =>
    refine State.noticesOwed_answered hs (p := p) (by simp [ho]) ?_ (fun q hq => ?_)
      (State.deferredDone_inExecution _ b)
    · rw [State.deferredDone_port, State.setPort_port_same]
    · rw [State.deferredDone_port, State.setPort_port_ne _ _ hq]
  | wentDown p c hp ht ho =>
    by_cases hstop : (s.port p).owed = .stop
    · refine State.noticesOwed_answered hs (p := p) (by simp [hstop]) ?_ (fun q hq => ?_) ?_
      · rw [State.goDown_port ho, State.setPort_port_same]
      · rw [State.goDown_port ho, State.setPort_port_ne _ _ hq]
      · rw [State.goDown_eq, if_pos hstop]
        exact State.deferredDone_inExecution _ _
    · have hnone : (s.port p).owed = .none := by
        cases h : (s.port p).owed <;> simp_all
      refine State.noticesOwed_of hs (fun q => ?_) ?_
      · rw [State.goDown_port ho]
        exact State.setPort_owed hnone.symm q
      · rw [State.goDown_eq, if_neg hstop, (s.toldDown_keeps p c).2.2.2.1]
  | linked h => exact State.noticesOwed_of hs h.owed (congrArg Agent.inExecution h.keeps.agent)
  | _ => exact hs

theorem State.tick_noticesOwed {s : State} (hs : s.noticesOwed) : s.tick.noticesOwed :=
  State.noticesOwed_of hs (fun q => by rw [State.tick_port]; rfl) rfl

/-- Settles O52: no move takes a slot that is not free, breaks a turn, or loses the command that a port
owes a notice to. -/
theorem slotsAndTurnsStaySound : Obligations.SlotsAndTurnsStaySound := by
  intro s t hslots hup hnotices hstep
  refine step_keeps (P := fun u => u.slotsSound ∧ u.upstreamSound ∧ u.noticesOwed) ?_ (fun _ _ hu => hu)
    ?_ ⟨hslots, hup, hnotices⟩ hstep
  · rintro u - ⟨hslots, hup, hnotices⟩
    exact ⟨hslots, hup, State.tick_noticesOwed hnotices⟩
  · rintro u v hmove ⟨hslots, hup, hnotices⟩
    exact ⟨hmove.keeps_slotsSound hslots, hmove.keeps_upstreamSound hup, hmove.keeps_noticesOwed hnotices⟩

end Sys2Proof.Machine

/-! SUPPORT and THEOREMS. Transaction records and their reserved slots (R112, R113, R124, R127, R133,
R134, R137). -/

namespace Sys2Proof.Machine

/-! ### Entries in their slots -/

theorem ReturnQueue.inSlot_eq (q : ReturnQueue) (x : Slot) :
    q.inSlot x = q.entries.countP fun e => e.slot == x := rfl

/-- Entries in other slots do not count. -/
theorem countP_slot_eq_zero {es : List Entry} {x : Slot} (h : ∀ e ∈ es, e.slot ≠ x) :
    es.countP (fun e => e.slot == x) = 0 :=
  List.countP_eq_zero.2 fun e he => by simpa using h e he

theorem repliesPaired_cons {e : Entry} {es : List Entry} : repliesPaired (e :: es) = true
    ↔ (∀ t, e.slot = .replyOf t → ∃ r rest, es = r :: rest ∧ r.slot = .reportOf t)
      ∧ repliesPaired es = true := by
  rw [repliesPaired, Bool.and_eq_true]
  refine and_congr_left' ?_
  cases he : e.slot with
  | replyOf t => cases es <;> simp
  | reportOf t => simp
  | shared => simp

/-- R137: what joins in pairs leaves pairs. -/
theorem repliesPaired_append {es fs : List Entry} (h : repliesPaired es = true)
    (k : repliesPaired fs = true) : repliesPaired (es ++ fs) = true := by
  induction es with
  | nil => exact k
  | cons e es ih =>
    obtain ⟨hpair, htail⟩ := repliesPaired_cons.1 h
    refine repliesPaired_cons.2 ⟨fun t ht => ?_, ih htail⟩
    obtain ⟨r, rest, rfl, hr⟩ := hpair t ht
    exact ⟨r, rest ++ fs, rfl, hr⟩

theorem repliesPaired_of_shared {es : List Entry} (h : ∀ e ∈ es, e.slot = .shared) :
    repliesPaired es = true := by
  induction es with
  | nil => rfl
  | cons e es ih =>
    obtain ⟨he, hes⟩ := List.forall_mem_cons.1 h
    exact repliesPaired_cons.2 ⟨fun t ht => by simp [he] at ht, ih hes⟩

/-- R137: no tag has more REPLYs than REPORTs in the queue. -/
theorem replies_le_reports {es : List Entry} (h : repliesPaired es = true) (t : Tag) :
    es.countP (fun e => e.slot == .replyOf t) ≤ es.countP fun e => e.slot == .reportOf t := by
  -- a queue whose head is the REPORT of `t` has one REPORT to spare
  have spare : ∀ es : List Entry, repliesPaired es = true →
      es.countP (fun e => e.slot == .replyOf t)
          + (if es.head?.any (fun r => r.slot == .reportOf t) then 1 else 0)
        ≤ es.countP fun e => e.slot == .reportOf t := by
    intro es
    induction es with
    | nil => simp
    | cons e es ih =>
      intro h
      obtain ⟨hpair, htail⟩ := repliesPaired_cons.1 h
      have hle := ih htail
      simp only [List.countP_cons, List.head?_cons, Option.any_some, beq_iff_eq]
      by_cases hreply : e.slot = .replyOf t
      · obtain ⟨r, rest, rfl, hr⟩ := hpair t hreply
        simpa [hreply, hr] using hle
      · by_cases hreport : e.slot = .reportOf t
        · simp only [hreport, reduceCtorEq, if_true, if_false]
          omega
        · simp only [hreply, hreport, if_false]
          omega
  exact (Nat.le_add_right _ _).trans (spare es h)

/-! ### The parts of a record -/

/-- R112: the parts stand in ascending port order. -/
theorem partsAscend_iff (rs : List PortRecord) :
    partsAscend rs = true ↔ (rs.map PortRecord.port).Pairwise (· < ·) := by
  rw [← List.isChain_iff_pairwise]
  induction rs with
  | nil => simp [partsAscend]
  | cons r rs ih =>
    cases rs with
    | nil => simp [partsAscend]
    | cons q rest =>
      rw [partsAscend, Bool.and_eq_true, decide_eq_true_eq, ih]
      simp

theorem partsAscend_congr {rs qs : List PortRecord}
    (h : rs.map PortRecord.port = qs.map PortRecord.port) : partsAscend rs = partsAscend qs := by
  rw [Bool.eq_iff_iff, partsAscend_iff, partsAscend_iff, h]

theorem Transaction.await_ports (x : Transaction) (p : PortId) :
    (x.await p).parts.map PortRecord.port = x.parts.map PortRecord.port := by
  simp only [Transaction.await, List.map_map]
  refine List.map_congr_left fun r _ => ?_
  simp only [Function.comp_apply]
  split <;> rfl

theorem PortRecord.expired_port (b : Bool) (r : PortRecord) : (r.expired b).port = r.port := by
  unfold PortRecord.expired
  split <;> rfl

theorem PortRecord.expired_settled (b : Bool) (r : PortRecord) : (r.expired b).settled = true := by
  unfold PortRecord.expired
  split
  · rfl
  · rfl
  next o hr => simp [PortRecord.settled, hr]

theorem Transaction.await_finished (x : Transaction) (p : PortId) :
    (x.await p).finished = x.finished := by
  simp only [Transaction.finished, Transaction.await, List.all_map]
  congr 1
  funext r
  simp only [Function.comp_apply]
  split
  next h => simp [PortRecord.settled, h.2]
  next => rfl

/-! ### Records and slots -/

/-- R112, R124: a record agrees with what stands in the slots of its tag. -/
structure State.RecordFits (s : State) (t : Tag) (x : Transaction) : Prop where
  ascend : partsAscend x.parts = true
  opened : x.state = .opened → x.finished = false ∧ s.ret.inSlot (.replyOf t) = 0
    ∧ s.ret.inSlot (.reportOf t) = 0
  done : x.state = .done → x.finished = true ∧ x.deadline = none ∧ s.ret.inSlot (.replyOf t) ≤ 1
    ∧ s.ret.inSlot (.reportOf t) = 1

theorem State.recordsSound_iff {s : State} : s.recordsSound
    ↔ (∀ t x, s.record t = some x → s.RecordFits t x)
      ∧ (∀ t, s.record t = none → s.ret.inSlot (.replyOf t) = 0 ∧ s.ret.inSlot (.reportOf t) = 0)
      ∧ repliesPaired s.ret.entries = true := by
  have held (t : Tag) (x : Transaction) : s.RecordFits t x
      ↔ s.ret.fitsRecord t (some x) = true ∧ partsAscend x.parts = true := by
    rw [ReturnQueue.fitsRecord]
    cases hx : x.state with
    | opened =>
      simp only [Bool.and_eq_true, Bool.not_eq_true', beq_iff_eq, and_assoc]
      exact ⟨fun h => ⟨(h.opened hx).1, (h.opened hx).2.1, (h.opened hx).2.2, h.ascend⟩,
        fun ⟨hf, hr, hp, ha⟩ => ⟨ha, fun _ => ⟨hf, hr, hp⟩, fun hd => by simp [hx] at hd⟩⟩
    | done =>
      simp only [Bool.and_eq_true, decide_eq_true_eq, beq_iff_eq, Option.isNone_iff_eq_none, and_assoc]
      exact ⟨fun h => ⟨(h.done hx).1, (h.done hx).2.1, (h.done hx).2.2.1, (h.done hx).2.2.2, h.ascend⟩,
        fun ⟨hf, hn, hr, hp, ha⟩ => ⟨ha, fun ho => by simp [hx] at ho, fun _ => ⟨hf, hn, hr, hp⟩⟩⟩
  have free (t : Tag) : (s.ret.inSlot (.replyOf t) = 0 ∧ s.ret.inSlot (.reportOf t) = 0)
      ↔ s.ret.fitsRecord t none = true := by
    simp [ReturnQueue.fitsRecord]
  constructor
  · rintro ⟨hall, hpaired⟩
    refine ⟨fun t x hx => (held t x).2 ?_, fun t ht => (free t).2 ?_, hpaired⟩
    · have h := hall t
      rw [hx] at h
      exact h
    · have h := (hall t).1
      rwa [ht] at h
  · rintro ⟨hheld, hfree, hpaired⟩
    refine ⟨fun t => ?_, hpaired⟩
    cases hx : s.record t with
    | none => exact ⟨(free t).1 (hfree t hx), rfl⟩
    | some x => exact (held t x).1 (hheld t x hx)

/-- Records stay sound while neither they nor the entries change. -/
theorem State.recordsSound_of {s t : State} (hs : s.recordsSound) (hr : ∀ k, t.record k = s.record k)
    (he : t.ret.entries = s.ret.entries) : t.recordsSound := by
  simp only [State.recordsSound, ReturnQueue.fitsRecord, ReturnQueue.inSlot, hr, he] at hs ⊢
  exact hs

/-- Entries of shared slots leave the records sound. -/
theorem State.recordsSound_of_shared {s t : State} (hs : s.recordsSound)
    (hr : ∀ k, t.record k = s.record k)
    (he : ∃ es, t.ret.entries = s.ret.entries ++ es ∧ ∀ e ∈ es, e.slot = .shared) : t.recordsSound := by
  obtain ⟨es, hes, hshared⟩ := he
  have hslot (x : Slot) (hx : x ≠ .shared) : t.ret.inSlot x = s.ret.inSlot x := by
    rw [ReturnQueue.inSlot_eq, hes, List.countP_append,
      countP_slot_eq_zero (fun e he h => hx (h.symm.trans (hshared e he))), Nat.add_zero]
    rfl
  obtain ⟨hheld, hfree, hpaired⟩ := State.recordsSound_iff.1 hs
  refine State.recordsSound_iff.2 ⟨fun k x hx => ?_, fun k hk => ?_, ?_⟩
  · obtain ⟨hascend, hopened, hdone⟩ := hheld k x (hr k ▸ hx)
    refine ⟨hascend, ?_, ?_⟩ <;> rw [hslot _ (by simp), hslot _ (by simp)] <;> assumption
  · rw [hslot _ (by simp), hslot _ (by simp)]
    exact hfree k (hr k ▸ hk)
  · rw [hes]
    exact repliesPaired_append hpaired (repliesPaired_of_shared hshared)

/-- R114 to R118: a record that is OPEN before, or free, is OPEN after, with a part unresolved. -/
theorem State.recordsSound_setRecord {s : State} (hs : s.recordsSound) {t : Tag} {y : Transaction}
    (ht : ∀ x, s.record t = some x → x.state = .opened) (ho : y.state = .opened)
    (hf : y.finished = false) (ha : partsAscend y.parts = true) :
    (s.setRecord t (some y)).recordsSound := by
  obtain ⟨hheld, hfree, hpaired⟩ := State.recordsSound_iff.1 hs
  have hempty : s.ret.inSlot (.replyOf t) = 0 ∧ s.ret.inSlot (.reportOf t) = 0 := by
    cases hx : s.record t with
    | none => exact hfree t hx
    | some x => exact ((hheld t x hx).opened (ht x hx)).2
  refine State.recordsSound_iff.2 ⟨fun k x hx => ?_, fun k hk => ?_, hpaired⟩
  · rw [State.setRecord_record] at hx
    split at hx
    next hkt =>
      subst hkt
      cases hx
      exact ⟨ha, fun _ => ⟨hf, hempty⟩, fun hd => by simp [ho] at hd⟩
    next => exact ⟨(hheld k x hx).ascend, (hheld k x hx).opened, (hheld k x hx).done⟩
  · rw [State.setRecord_record] at hk
    split at hk
    · cases hk
    · exact hfree k hk

theorem Transaction.completionEntries_paired (x : Transaction) (t : Tag) :
    repliesPaired (x.completionEntries t) = true := by
  rcases x.completionEntries_cases t with h | ⟨d, -, -, h⟩ <;> rw [h] <;>
    simp [repliesPaired, Transaction.replyEntry, Transaction.reportEntry]

/-- R124, R134: completion places one REPORT, and at most one REPLY, in the slots of its own tag. -/
theorem Transaction.completionEntries_slots (x : Transaction) (t : Tag) :
    (x.completionEntries t).countP (fun e => e.slot == .replyOf t) ≤ 1
      ∧ (x.completionEntries t).countP (fun e => e.slot == .reportOf t) = 1 := by
  rcases x.completionEntries_cases t with h | ⟨d, -, -, h⟩ <;> rw [h] <;>
    simp [Transaction.replyEntry, Transaction.reportEntry]

theorem State.complete_record (s : State) (t : Tag) (x : Transaction) (k : Tag) :
    (s.complete t x).record k = if k = t then some x.closed else s.record k :=
  s.setRecord_record t k _

theorem State.complete_entries (s : State) (t : Tag) (x : Transaction) :
    (s.complete t x).ret.entries = s.ret.entries ++ x.completionEntries t := by
  change (s.ret.joined (x.completionEntries t)).entries = _
  rw [ReturnQueue.joined_completion]
  rfl

/-- R124: an OPEN record with no part left unresolved completes. -/
theorem State.recordsSound_complete {s : State} (hs : s.recordsSound) {t : Tag} {x y : Transaction}
    (hx : s.record t = some x) (ho : x.state = .opened) (hf : y.finished = true)
    (ha : partsAscend y.parts = true) : (s.complete t y).recordsSound := by
  obtain ⟨hheld, hfree, hpaired⟩ := State.recordsSound_iff.1 hs
  obtain ⟨-, hreply, hreport⟩ := (hheld t x hx).opened ho
  have hother (k : Tag) (hk : k ≠ t) :
      (s.complete t y).ret.inSlot (.replyOf k) = s.ret.inSlot (.replyOf k)
        ∧ (s.complete t y).ret.inSlot (.reportOf k) = s.ret.inSlot (.reportOf k) := by
    have hnot (z : Slot) (hr : z ≠ .replyOf t) (hp : z ≠ .reportOf t) :
        (s.complete t y).ret.inSlot z = s.ret.inSlot z := by
      rw [ReturnQueue.inSlot_eq, State.complete_entries, List.countP_append,
        countP_slot_eq_zero (es := y.completionEntries t), Nat.add_zero]
      · rfl
      · intro e he h
        rcases y.completionEntries_slot t e he with h' | h'
        · exact hr (h.symm.trans h')
        · exact hp (h.symm.trans h')
    exact ⟨hnot _ (by simpa using hk) (by simp), hnot _ (by simp) (by simpa using hk)⟩
  have hown : (s.complete t y).ret.inSlot (.replyOf t) ≤ 1
      ∧ (s.complete t y).ret.inSlot (.reportOf t) = 1 := by
    rw [ReturnQueue.inSlot_eq] at hreply hreport ⊢
    rw [ReturnQueue.inSlot_eq, State.complete_entries, List.countP_append, List.countP_append, hreply,
      hreport, Nat.zero_add, Nat.zero_add]
    exact y.completionEntries_slots t
  refine State.recordsSound_iff.2 ⟨fun k z hz => ?_, fun k hk => ?_, ?_⟩
  · rw [State.complete_record] at hz
    split at hz
    next hkt =>
      subst hkt
      cases hz
      exact ⟨ha, fun h => by simp [Transaction.closed] at h, fun _ => ⟨hf, rfl, hown⟩⟩
    next hkt =>
      obtain ⟨hascend, hopened, hdone⟩ := hheld k z hz
      obtain ⟨hr, hp⟩ := hother k hkt
      refine ⟨hascend, ?_, ?_⟩ <;> rw [hr, hp] <;> assumption
  · rw [State.complete_record] at hk
    split at hk
    · cases hk
    next hkt =>
      obtain ⟨hr, hp⟩ := hother k hkt
      rw [hr, hp]
      exact hfree k hk
  · rw [State.complete_entries]
    exact repliesPaired_append hpaired (y.completionEntries_paired t)

/-! ### Resolutions -/

/-- R124: an OPEN record that is settled further is stored, or completes. -/
theorem State.recordsSound_storeOrComplete {s : State} (hs : s.recordsSound) {t : Tag}
    {x y : Transaction} (hx : s.record t = some x) (ho : x.state = .opened) (hy : y.state = .opened)
    (hports : y.parts.map PortRecord.port = x.parts.map PortRecord.port) :
    (s.storeOrComplete t y).recordsSound := by
  have ha : partsAscend y.parts = true := by
    rw [partsAscend_congr hports]
    exact ((State.recordsSound_iff.1 hs).1 t x hx).ascend
  rcases s.storeOrComplete_cases t y with ⟨hf, h⟩ | ⟨hf, h⟩ <;> rw [h]
  · exact State.recordsSound_complete hs hx ho hf ha
  · refine State.recordsSound_setRecord hs (fun z hz => ?_) hy hf ha
    cases hx.symm.trans hz
    exact ho

theorem State.recordsSound_takeNotice {s : State} (hs : s.recordsSound) (p : PortId) (n : Notice) :
    (s.takeNotice p n).recordsSound := by
  unfold State.takeNotice
  rcases s.onOpenRecord_cases n.tag _ with ⟨x, hx, ho, h⟩ | ⟨-, h⟩ <;> rw [h]
  · exact State.recordsSound_storeOrComplete hs hx ho ho (x.settle_ports p _ _ _)
  · exact hs

theorem State.recordsSound_handNotices {s : State} (hs : s.recordsSound) (p : PortId)
    (ns : List Notice) : (s.handNotices p ns).recordsSound := by
  induction ns generalizing s with
  | nil => exact hs
  | cons n ns ih => exact ih (State.recordsSound_takeNotice hs p n)

theorem State.recordsSound_handResult {s : State} (hs : s.recordsSound) (p : PortId) (e : Exchange) :
    (s.handResult p e).recordsSound := by
  unfold State.handResult
  split
  · unfold State.takeResult
    rcases s.onOpenRecord_cases e.tag _ with ⟨x, hx, ho, h⟩ | ⟨-, h⟩ <;> rw [h]
    · exact State.recordsSound_storeOrComplete hs hx ho ho (x.settle_ports p _ _ _)
    · exact hs
  · exact hs

theorem State.recordsSound_partAwaits {s : State} (hs : s.recordsSound) (t : Tag) (p : PortId) :
    (s.partAwaits t p).recordsSound := by
  unfold State.partAwaits
  rcases s.onOpenRecord_cases t _ with ⟨x, hx, ho, h⟩ | ⟨-, h⟩ <;> rw [h]
  · obtain ⟨hascend, hopened, -⟩ := (State.recordsSound_iff.1 hs).1 t x hx
    refine State.recordsSound_setRecord hs (fun z hz => ?_) ho ?_ ?_
    · cases hx.symm.trans hz
      exact ho
    · rw [x.await_finished]
      exact (hopened ho).1
    · rw [partsAscend_congr (x.await_ports p)]
      exact hascend
  · exact hs

theorem State.recordsSound_setPort {s : State} (hs : s.recordsSound) (p : PortId) (x : Port) :
    (s.setPort p x).recordsSound := State.recordsSound_of hs (fun _ => rfl) rfl

theorem State.recordsSound_failPort {s : State} (hs : s.recordsSound) (p : PortId) (f : Port → Port) :
    (s.failPort p f).recordsSound :=
  State.recordsSound_handNotices (State.recordsSound_setPort hs p _) p _

theorem State.recordsSound_stopPort {s : State} (hs : s.recordsSound) (p : PortId) :
    (s.stopPort p).recordsSound := by
  simp only [State.stopPort]
  split
  · exact State.recordsSound_handNotices (State.recordsSound_setPort hs p _) p _
  · exact State.recordsSound_setPort hs p _

theorem State.recordsSound_restartPort {s : State} (hs : s.recordsSound) (p : PortId) :
    (s.restartPort p).recordsSound := by
  simp only [State.restartPort]
  split
  · exact State.recordsSound_handNotices (State.recordsSound_setPort hs p _) p _
  · exact State.recordsSound_setPort hs p _

/-! ### Admission and expiry -/

/-- R53: a tagged request whose tag is held is refused. -/
theorem tag_free_of_headRefusal {kind : StreamKind} {h : Header} {payload : List Byte}
    {members : PortSet} {fields : EntryClass} {held : Bool}
    (hh : headRefusal kind h payload members fields held = none) {k : RequestKind}
    (hk : kind.tagged h = some k) : held = false := by
  unfold headRefusal at hh
  split at hh
  · cases hh
  · split at hh
    · cases hh
    · cases held with
      | false => rfl
      | true => simp [hk] at hh

theorem newTransaction_ports (kind : RequestKind) (stream : Nat) (deadline : Option Nat)
    (members : PortSet) (targets : List PortId) :
    (newTransaction kind stream deadline members targets).parts.map PortRecord.port
      = PortSet.toList members := by
  simp [newTransaction, newPart, Function.comp_def]

/-- R114: a record with a target has a part unresolved. -/
theorem newTransaction_finished {kind : RequestKind} {stream : Nat} {deadline : Option Nat}
    {members : PortSet} {targets : List PortId} {p : PortId} (hp : p ∈ targets)
    (hm : PortSet.has members p = true) :
    (newTransaction kind stream deadline members targets).finished = false := by
  have hmem : newPart true p ∈ (newTransaction kind stream deadline members targets).parts := by
    refine List.mem_map.2 ⟨p, (PortSet.mem_toList members p).2 hm, ?_⟩
    rw [List.contains_iff_mem.2 hp]
  rw [Transaction.finished, Bool.eq_false_iff]
  intro hall
  simpa [newPart, PortRecord.settled] using List.all_eq_true.1 hall _ hmem

theorem State.appendAll_record (s : State) (targets : List PortPieces) (k : Tag) :
    (s.appendAll targets).record k = s.record k := by
  obtain ⟨_, h⟩ := s.appendAll_keeps targets
  rw [h]
  rfl

theorem State.judgeAll_record (s : State) (ps : List PortId) (k : Tag) :
    (ps.foldl State.judgePort s).record k = s.record k := by
  obtain ⟨_, h⟩ := s.judgeAll_keeps ps
  rw [h]
  rfl

/-- R61, R114: the records after an admission. -/
theorem State.admitPacket_record (s : State) (h : Header) (tagged : Option RequestKind)
    (members : PortSet) (targets : List PortPieces) (k : Tag) :
    (s.admitPacket h tagged members targets).record k
      = match tagged with
        | none => s.record k
        | some kind => if k = h.tag then some (newTransaction kind h.stream s.txns.newDeadline members
            (targets.map PortPieces.port)) else s.record k := by
  rw [State.admitPacket_eq, State.judgeAll_record]
  change ((s.appendAll _).createFor h tagged members _).record k = _
  cases tagged with
  | none => exact s.appendAll_record _ k
  | some kind =>
    obtain ⟨_, happend⟩ := s.appendAll_keeps (targets.map (PortPieces.linked (some kind) h.tag))
    refine (State.setRecord_record _ h.tag k _).trans ?_
    rw [s.appendAll_record, happend]
    rfl

theorem State.recordsSound_admitPacket {s : State} (hs : s.recordsSound) {kind : StreamKind} {h : Header}
    {payload : List Byte} {members : PortSet} {out : Nat} {fields : EntryClass}
    (hh : headRefusal kind h payload members fields (s.tagHeld h.tag) = none)
    (ht : s.sliceFor kind h payload members out fields ≠ []) :
    (s.admitPacket h (kind.tagged h) members
      (s.sliceFor kind h payload members out fields)).recordsSound := by
  have hret := s.admitPacket_ret h (kind.tagged h) members
    (s.sliceFor kind h payload members out fields)
  have hrecord := s.admitPacket_record h (kind.tagged h) members
    (s.sliceFor kind h payload members out fields)
  cases hk : kind.tagged h with
  | none =>
    rw [hk] at hret hrecord
    exact State.recordsSound_of hs hrecord (congrArg ReturnQueue.entries hret)
  | some k =>
    rw [hk] at hret hrecord
    have hfree : s.record h.tag = none := by
      have := tag_free_of_headRefusal hh hk
      simpa [State.tagHeld] using this
    obtain ⟨x, hx⟩ := List.exists_mem_of_ne_nil _ ht
    have hlive := s.sliceFor_live kind h payload members out fields hx
    refine State.recordsSound_of (s := s.setRecord h.tag (some (newTransaction k h.stream
      s.txns.newDeadline members ((s.sliceFor kind h payload members out fields).map PortPieces.port))))
      ?_ ?_ (congrArg ReturnQueue.entries hret)
    · refine State.recordsSound_setRecord hs (by simp [hfree]) rfl
        (newTransaction_finished (List.mem_map_of_mem hx) hlive.1) ?_
      rw [partsAscend_iff, newTransaction_ports]
      exact List.Pairwise.filter _ (by decide)
    · intro j
      rw [hrecord, State.setRecord_record]

theorem State.recordsSound_expireRecord {s : State} (hs : s.recordsSound) {t : Tag} {x : Transaction}
    (hx : s.record t = some x) (ho : x.state = .opened) : (s.expireRecord t x).recordsSound := by
  have hlocal (parts : List PortRecord) : (s.expirePorts t parts).recordsSound
      ∧ ∀ k, (s.expirePorts t parts).record k = s.record k := by
    induction parts generalizing s with
    | nil => exact ⟨hs, fun _ => rfl⟩
    | cons r rs ih =>
      exact ih (s := s.setPort r.port ((s.port r.port).expire t r)) (State.recordsSound_setPort hs _ _) hx
  obtain ⟨hports, hrecord⟩ := hlocal x.parts
  refine State.recordsSound_complete hports ((hrecord t).trans hx) ho ?_ ?_
  · simp [Transaction.finished, PortRecord.expired_settled]
  · have hmap : (x.parts.map fun r => r.expired ((s.port r.port).hasStarted t)).map PortRecord.port
        = x.parts.map PortRecord.port := by
      simp [Function.comp_def, PortRecord.expired_port]
    rw [partsAscend_congr hmap]
    exact ((State.recordsSound_iff.1 hs).1 t x hx).ascend

theorem State.LinkMove.keeps_recordsSound {s t : State} (h : s.LinkMove t) (hs : s.recordsSound) :
    t.recordsSound := by
  cases h with
  | ported p x => exact State.recordsSound_setPort hs p x
  | exchangeOpened p a =>
    simp only [State.openExchange]
    split
    · exact State.recordsSound_partAwaits (State.recordsSound_setPort hs p _) _ p
    · exact State.recordsSound_setPort hs p _
  | exchangeEnded p e =>
    exact State.recordsSound_setPort
      (State.recordsSound_handResult (State.recordsSound_setPort hs p _) p e) p _
  | timedOut p => exact State.recordsSound_failPort hs p _
  | collided p => exact State.recordsSound_failPort hs p _
  | admitted kind h payload members out fields hl hh ht => exact State.recordsSound_admitPacket hs hh ht
  | expired t x hx ho => exact State.recordsSound_expireRecord hs hx ho

/-! ### An entry that leaves the queue -/

theorem State.entrySent_record (s : State) (x : Turn) (e : Entry) (rest : List Entry) (k : Tag) :
    (s.entrySent x e rest).record k = if e.slot = .reportOf k then none else s.record k := by
  change ((s.withRet ({ s.ret with entries := rest }).judged).releaseFor e).record k = _
  unfold State.releaseFor
  split
  next t ht =>
    rw [State.setRecord_record, ht]
    by_cases hk : k = t
    · simp [hk]
    · rw [if_neg hk, if_neg (by simpa using Ne.symm hk)]
      rfl
  next t ht => rw [if_neg (by simp [ht])]; rfl
  next ht => rw [if_neg (by simp [ht])]; rfl

/-- R127, R141: the entry at the head leaves its slot, and a REPORT frees its record. -/
theorem State.recordsSound_entrySent {s : State} (hs : s.recordsSound) {e : Entry} {rest : List Entry}
    (he : s.ret.entries = e :: rest) (x : Turn) : (s.entrySent x e rest).recordsSound := by
  obtain ⟨hheld, hfree, hpaired⟩ := State.recordsSound_iff.1 hs
  obtain ⟨hpair, hrest⟩ := repliesPaired_cons.1 (he ▸ hpaired)
  have hafter (z : Slot) : s.ret.inSlot z
      = (s.entrySent x e rest).ret.inSlot z + if e.slot = z then 1 else 0 := by
    rw [ReturnQueue.inSlot_eq, ReturnQueue.inSlot_eq, s.entrySent_ret, he, List.countP_cons]
    simp
  have hle (z : Slot) : (s.entrySent x e rest).ret.inSlot z ≤ s.ret.inSlot z := by
    rw [hafter]
    exact Nat.le_add_right _ _
  have hpaired' : repliesPaired (s.entrySent x e rest).ret.entries = true := by
    rw [s.entrySent_ret]
    exact hrest
  refine State.recordsSound_iff.2 ⟨fun k y hy => ?_, fun k hk => ?_, hpaired'⟩
  · rw [State.entrySent_record] at hy
    split at hy
    · cases hy
    next hslot =>
      obtain ⟨hascend, hopened, hdone⟩ := hheld k y hy
      have hsame := hafter (.reportOf k)
      rw [if_neg hslot, Nat.add_zero] at hsame
      refine ⟨hascend, fun ho => ?_, fun hd => ?_⟩
      · obtain ⟨hf, hr, hp⟩ := hopened ho
        exact ⟨hf, Nat.le_zero.1 (hr ▸ hle _), hsame ▸ hp⟩
      · obtain ⟨hf, hn, hr, hp⟩ := hdone hd
        exact ⟨hf, hn, (hle _).trans hr, hsame ▸ hp⟩
  · rw [State.entrySent_record] at hk
    have hnone : (s.entrySent x e rest).ret.inSlot (.reportOf k) = 0 := by
      split at hk
      next hslot =>
        have hcount := hafter (.reportOf k)
        rw [if_pos hslot] at hcount
        cases hy : s.record k with
        | none => rw [(hfree k hy).2] at hcount; omega
        | some y =>
          cases hstate : y.state with
          | opened => rw [((hheld k y hy).opened hstate).2.2] at hcount; omega
          | done => rw [((hheld k y hy).done hstate).2.2.2] at hcount; omega
      next => exact Nat.le_zero.1 ((hfree k hk).2 ▸ hle _)
    exact ⟨Nat.le_zero.1 (hnone ▸ replies_le_reports hpaired' k), hnone⟩

/-! ### Every move -/

theorem State.recordsSound_of_empty {s : State} (hr : ∀ t, s.record t = none) (he : s.ret.entries = []) :
    s.recordsSound := by
  refine State.recordsSound_iff.2 ⟨fun t x hx => ?_, fun t _ => ?_, ?_⟩
  · rw [hr] at hx
    cases hx
  · rw [ReturnQueue.inSlot_eq, ReturnQueue.inSlot_eq, he]
    exact ⟨rfl, rfl⟩
  · rw [he]
    rfl

theorem State.recordsSound_deferredDone {s : State} (hs : s.recordsSound) (b : Byte) :
    (s.deferredDone b).recordsSound := by
  cases hc : s.agent.inExecution with
  | none => rw [s.deferredDone_of_none b hc]; exact hs
  | some c =>
    rw [s.deferredDone_of_held c b hc]
    exact State.recordsSound_of_shared hs (fun _ => rfl) ⟨_, rfl, by simp⟩

theorem State.replicate_record {s : State} (h : s.txns.records = Vector.replicate 16 none) (t : Tag) :
    s.record t = none := by
  simp [State.record, h]

theorem State.Move.keeps_recordsSound {s t : State} (h : s.Move t) (hs : s.recordsSound) :
    t.recordsSound := by
  cases h with
  | reset => exact State.recordsSound_of_empty (State.replicate_record rfl) rfl
  | hubCleared => exact State.recordsSound_of_empty (State.replicate_record rfl) rfl
  | entrySent x e rest hd hx hp he => exact State.recordsSound_entrySent hs he x
  | noted q he => exact State.recordsSound_of hs (fun _ => rfl) he
  | joined e he => exact State.recordsSound_of_shared hs (fun _ => rfl) ⟨[e], rfl, by simpa using he⟩
  | answered => exact State.recordsSound_of_shared hs (fun _ => rfl) ⟨_, rfl, by simp⟩
  | regrouped a mode =>
    obtain ⟨_, h⟩ := State.tellWatches_keeps
      (s.setGroup a.group { (s.group a.group).configured a with mode := mode }) s
    rw [h]
    exact State.recordsSound_of hs (fun _ => rfl) rfl
  | stopHeld c rest p => exact State.recordsSound_stopPort (s := s.held c rest) hs p
  | restartHeld c rest p => exact State.recordsSound_restartPort (s := s.held c rest) hs p
  | restartAnswered p b => exact State.recordsSound_deferredDone (State.recordsSound_setPort hs p _) b
  | wentDown p c =>
    have htold : (s.toldDown p c).recordsSound :=
      State.recordsSound_of_shared hs (fun k => congrArg (fun x => x.records[k]) (s.toldDown_keeps p c).2.2.1)
        (s.toldDown_asks p c).entries
    rw [State.goDown_eq]
    split
    · exact State.recordsSound_deferredDone (State.recordsSound_setPort htold p _) _
    · exact htold
  | linked h => exact h.keeps_recordsSound hs
  | _ => exact hs

theorem State.tick_recordsSound {s : State} (hs : s.recordsSound) : s.tick.recordsSound := by
  obtain ⟨hheld, hfree, hpaired⟩ := State.recordsSound_iff.1 hs
  refine State.recordsSound_iff.2 ⟨fun t x hx => ?_, fun t ht => hfree t (by simpa using ht), hpaired⟩
  rw [State.tick_record] at hx
  obtain ⟨y, hy, rfl⟩ := Option.map_eq_some_iff.1 hx
  obtain ⟨hascend, hopened, hdone⟩ := hheld t y hy
  refine ⟨hascend, hopened, fun hd => ?_⟩
  obtain ⟨hf, hn, hrest⟩ := hdone hd
  exact ⟨hf, by simp [Transaction.tick, tickTimer, hn], hrest⟩

/-- Settles O56: a record takes its slots when it completes, and is freed when its REPORT has left. -/
theorem recordsAgreeWithTheirSlots : Obligations.RecordsAgreeWithTheirSlots :=
  fun _ _ hs hstep => step_keeps (P := State.recordsSound) (fun _ _ => State.tick_recordsSound)
    (fun _ _ hu => hu) (fun _ _ hm => hm.keeps_recordsSound) hs hstep

end Sys2Proof.Machine

/-! SUPPORT. The unresolved port records, and what each operation of the transaction table makes of them
(R115 to R121). -/

namespace Sys2Proof.Machine

/-! ### Unresolved port records -/

/-- The record has a port record of port `p` in this state, QUEUED or AWAITING. -/
def Transaction.Pends (x : Transaction) (p : PortId) (σ : PartState) : Prop :=
  (σ = .queued ∨ σ = .awaiting) ∧ ∃ r ∈ x.parts, r.port = p ∧ r.state = σ

/-- The OPEN record of tag `t` has a port record of port `p` in this state, QUEUED or AWAITING. -/
def State.Pends (s : State) (p : PortId) (t : Tag) (σ : PartState) : Prop :=
  ∃ x, s.record t = some x ∧ x.state = .opened ∧ x.Pends p σ

theorem State.partIn_iff {s : State} {t : Tag} {p : PortId} {σ : PartState}
    (hσ : σ = .queued ∨ σ = .awaiting) : s.partIn t p σ = true ↔ s.Pends p t σ := by
  simp only [State.partIn, Option.any_eq_true, Bool.and_eq_true, beq_iff_eq, List.any_eq_true,
    State.Pends, Transaction.Pends, hσ, true_and]

theorem State.Pends.of_record {s : State} {p : PortId} {t : Tag} {σ : PartState} (h : s.Pends p t σ)
    {x : Transaction} (hx : s.record t = some x) : x.state = .opened ∧ x.Pends p σ := by
  obtain ⟨y, hy, ho, hp⟩ := h
  cases hx.symm.trans hy
  exact ⟨ho, hp⟩

/-- Nothing is unresolved for a tag that is free. -/
theorem State.not_pends_of_free {s : State} {t : Tag} (h : s.record t = none) (p : PortId)
    (σ : PartState) : ¬ s.Pends p t σ := by
  rintro ⟨x, hx, -⟩
  rw [h] at hx
  cases hx

theorem State.pends_congr {s u : State} {k : Tag} (h : u.record k = s.record k) (q : PortId)
    (σ : PartState) : u.Pends q k σ ↔ s.Pends q k σ := by
  simp only [State.Pends, h]

/-- R112: a record has one port record for a port. -/
theorem State.recordsSound.pends_unique {s : State} (hs : s.recordsSound) {p : PortId} {t : Tag}
    {σ τ : PartState} (h : s.Pends p t σ) (k : s.Pends p t τ) : σ = τ := by
  obtain ⟨x, hx, -, -, r, hr, hrp, rfl⟩ := h
  obtain ⟨-, -, q, hq, hqp, rfl⟩ := k.of_record hx
  have hpair := (partsAscend_iff x.parts).1 ((State.recordsSound_iff.1 hs).1 t x hx).ascend
  have hinj := List.inj_on_of_nodup_map (hpair.imp fun hlt => ne_of_lt hlt)
  rw [hinj hr hq (hrp.trans hqp.symm)]

/-- A record without an unresolved part pends nowhere. -/
theorem Transaction.not_pends_of_finished {x : Transaction} (h : x.finished = true) (p : PortId)
    (σ : PartState) : ¬ x.Pends p σ := by
  rintro ⟨hσ, r, hr, -, rfl⟩
  have hsettled := List.all_eq_true.1 h r hr
  rcases hσ with hσ | hσ <;> simp [PortRecord.settled, hσ] at hsettled

/-! ### Operations on one record -/

section
variable (s : State) (t k : Tag) (p q : PortId) (σ : PartState)

theorem State.setRecord_pends (y : Transaction) : (s.setRecord t (some y)).Pends q k σ
    ↔ if k = t then y.state = .opened ∧ y.Pends q σ else s.Pends q k σ := by
  unfold State.Pends
  rw [State.setRecord_record]
  split <;> simp

theorem State.complete_pends {y : Transaction} :
    (s.complete t y).Pends q k σ ↔ k ≠ t ∧ s.Pends q k σ := by
  unfold State.Pends
  rw [State.complete_record]
  split
  next h => simp [Transaction.closed, h]
  next h => simp [h]

theorem State.storeOrComplete_pends {y : Transaction} (hy : y.state = .opened) :
    (s.storeOrComplete t y).Pends q k σ ↔ if k = t then y.Pends q σ else s.Pends q k σ := by
  rcases s.storeOrComplete_cases t y with ⟨hf, h⟩ | ⟨hf, h⟩ <;> rw [h]
  · rw [State.complete_pends]
    split
    next hk => simp [hk, Transaction.not_pends_of_finished hf]
    next hk => simp [hk]
  · rw [State.setRecord_pends]
    simp only [hy, true_and]

end

/-- A settled part pends no longer; the other ports' parts pend as before. -/
theorem Transaction.settle_pends (x : Transaction) (p q : PortId) (o : PartOutcome) (b : Bool)
    (w : Option Half) (σ : PartState) : (x.settle p o b w).Pends q σ ↔ x.Pends q σ ∧ q ≠ p := by
  unfold Transaction.Pends
  rw [and_assoc]
  refine and_congr_right fun hσ => ?_
  have hopen (r : PortRecord) (h : r.state = σ) : r.settled = false := by
    rcases hσ with hσ | hσ <;> simp [PortRecord.settled, h, hσ]
  have hne (o : PartOutcome) : PartState.resolved o ≠ σ := by
    rcases hσ with hσ | hσ <;> simp [hσ]
  constructor
  · rintro ⟨r, hr, hrq, hrσ⟩
    obtain ⟨r', hr', rfl⟩ := List.mem_map.1 hr
    split at hrσ
    · exact absurd hrσ (hne o)
    next hnot =>
      rw [if_neg hnot] at hrq
      exact ⟨⟨r', hr', hrq, hrσ⟩, fun hqp => hnot ⟨hrq.trans hqp, hopen r' hrσ⟩⟩
  · rintro ⟨⟨r, hr, hrq, hrσ⟩, hqp⟩
    have hnot : ¬ (r.port = p ∧ r.settled = false) := fun h => hqp (hrq.symm.trans h.1)
    exact ⟨r, List.mem_map.2 ⟨r, hr, if_neg hnot⟩, hrq, hrσ⟩

/-- R115: a part that awaits. -/
theorem Transaction.await_pends (x : Transaction) (p q : PortId) (σ : PartState) :
    (x.await p).Pends q σ ↔ if q = p then σ = .awaiting ∧ ∃ τ, x.Pends q τ else x.Pends q σ := by
  unfold Transaction.Pends
  constructor
  · rintro ⟨hσ, r, hr, hrq, hrσ⟩
    obtain ⟨r', hr', rfl⟩ := List.mem_map.1 hr
    split at hrσ
    next h =>
      rw [if_pos h] at hrq
      have hqp : q = p := hrq.symm.trans h.1
      rw [if_pos hqp]
      exact ⟨hrσ.symm, r'.state, .inl h.2, r', hr', hrq, rfl⟩
    next hnot =>
      rw [if_neg hnot] at hrq
      split
      next hqp =>
        have hawaiting : σ = .awaiting := hσ.resolve_left fun h => hnot ⟨hrq.trans hqp, hrσ.trans h⟩
        exact ⟨hawaiting, σ, hσ, r', hr', hrq, hrσ⟩
      next => exact ⟨hσ, r', hr', hrq, hrσ⟩
  · split
    next hqp =>
      rintro ⟨rfl, τ, hτ, r, hr, hrq, rfl⟩
      refine ⟨.inr rfl, _, List.mem_map_of_mem hr, ?_, ?_⟩
      · split <;> exact hrq
      · rcases hτ with hτ | hτ
        · rw [if_pos ⟨hrq.trans hqp, hτ⟩]
        · rw [if_neg (by simp [hτ])]
          exact hτ
    next hqp =>
      rintro ⟨hσ, r, hr, hrq, hrσ⟩
      have hnot : ¬ (r.port = p ∧ r.state = .queued) := fun h => hqp (hrq.symm.trans h.1)
      exact ⟨hσ, r, List.mem_map.2 ⟨r, hr, if_neg hnot⟩, hrq, hrσ⟩

/-! ### Operations of the table -/

section
variable (s : State) (t k : Tag) (p q : PortId) (σ : PartState)

/-- A resolution of the part of port `p` in the OPEN record of tag `t`. -/
theorem State.resolved_pends {x y : Transaction} (hx : s.record t = some x) (ho : x.state = .opened)
    (hy : y.state = .opened) (hp : y.Pends q σ ↔ x.Pends q σ ∧ q ≠ p) :
    (s.storeOrComplete t y).Pends q k σ ↔ s.Pends q k σ ∧ ¬ (k = t ∧ q = p) := by
  rw [State.storeOrComplete_pends _ _ _ _ _ hy, hp]
  split
  next hk =>
    subst hk
    have hpends : s.Pends q k σ ↔ x.Pends q σ :=
      ⟨fun h => (h.of_record hx).2, fun h => ⟨x, hx, ho, h⟩⟩
    rw [hpends, eq_self_iff_true, true_and]
  next hk => simp [hk]

theorem State.takeNotice_pends (n : Notice) :
    (s.takeNotice p n).Pends q k σ ↔ s.Pends q k σ ∧ ¬ (k = n.tag ∧ q = p) := by
  unfold State.takeNotice
  rcases s.onOpenRecord_cases n.tag _ with ⟨x, hx, ho, h⟩ | ⟨hno, h⟩ <;> rw [h]
  · exact s.resolved_pends n.tag k p q σ hx ho ho (x.settle_pends p q _ _ _ σ)
  · refine ⟨fun hpend => ⟨hpend, ?_⟩, And.left⟩
    rintro ⟨rfl, -⟩
    obtain ⟨x, hx, ho, -⟩ := hpend
    exact hno x hx ho

/-- R100, R118: the notices of a flush resolve the parts of the port in the transactions they name. -/
theorem State.handNotices_pends (ns : List Notice) :
    (s.handNotices p ns).Pends q k σ ↔ s.Pends q k σ ∧ ¬ (k ∈ ns.map Notice.tag ∧ q = p) := by
  induction ns generalizing s with
  | nil => simp [State.handNotices]
  | cons n ns ih =>
    refine (ih (s.takeNotice p n)).trans ?_
    rw [State.takeNotice_pends, List.map_cons, List.mem_cons]
    tauto

/-- R95, R116: a result resolves the part of its port in its transaction. -/
theorem State.handResult_pends (e : Exchange) : (s.handResult p e).Pends q k σ
    ↔ s.Pends q k σ ∧ ¬ (e.hasResult = true ∧ k = e.tag ∧ q = p) := by
  unfold State.handResult
  split
  next hres =>
    unfold State.takeResult
    rcases s.onOpenRecord_cases e.tag _ with ⟨x, hx, ho, h⟩ | ⟨hno, h⟩ <;> rw [h]
    · simpa [hres] using s.resolved_pends e.tag k p q σ hx ho
        (y := { x.settle p e.outcome false e.errorWord with data := e.dataFor x.data }) ho
        (x.settle_pends p q e.outcome false e.errorWord σ)
    · refine ⟨fun hpend => ⟨hpend, ?_⟩, And.left⟩
      rintro ⟨-, rfl, -⟩
      obtain ⟨x, hx, ho, -⟩ := hpend
      exact hno x hx ho
  next hres => simp [hres]

/-- R115: the port's part awaits once the exchange has opened. -/
theorem State.partAwaits_pends : (s.partAwaits t p).Pends q k σ
    ↔ if k = t ∧ q = p then σ = .awaiting ∧ ∃ τ, s.Pends q k τ else s.Pends q k σ := by
  unfold State.partAwaits
  rcases s.onOpenRecord_cases t _ with ⟨x, hx, ho, h⟩ | ⟨hno, h⟩ <;> rw [h]
  · rw [State.setRecord_pends]
    by_cases hk : k = t
    · subst hk
      have hpends (τ : PartState) : s.Pends q k τ ↔ x.Pends q τ :=
        ⟨fun h => (h.of_record hx).2, fun h => ⟨x, hx, ho, h⟩⟩
      have hstate : (x.await p).state = .opened := ho
      simp only [if_true, true_and, hstate, Transaction.await_pends, hpends]
    · simp [hk]
  · have hnone (τ : PartState) : ¬ s.Pends q t τ := fun ⟨x, hx, ho, _⟩ => hno x hx ho
    split
    next hk =>
      obtain ⟨rfl, -⟩ := hk
      simp [hnone]
    next => rfl

theorem State.expirePorts_record (parts : List PortRecord) :
    (s.expirePorts t parts).record k = s.record k := by
  induction parts generalizing s with
  | nil => rfl
  | cons r rs ih => exact ih (s.setPort r.port ((s.port r.port).expire t r))

/-- R121: nothing of the expired transaction pends. -/
theorem State.expireRecord_pends (x : Transaction) :
    (s.expireRecord t x).Pends q k σ ↔ k ≠ t ∧ s.Pends q k σ := by
  rw [State.expireRecord, State.complete_pends, State.pends_congr (s.expirePorts_record t k x.parts)]

end

/-- R114: the parts of the targets of a new record pend, QUEUED. -/
theorem newTransaction_pends {kind : RequestKind} {stream : Nat} {deadline : Option Nat}
    {members : PortSet} {targets : List PortId} (q : PortId) (σ : PartState) :
    (newTransaction kind stream deadline members targets).Pends q σ
      ↔ σ = .queued ∧ PortSet.has members q = true ∧ q ∈ targets := by
  unfold Transaction.Pends
  constructor
  · rintro ⟨hσ, r, hr, hrq, hrσ⟩
    obtain ⟨p, hp, rfl⟩ := List.mem_map.1 hr
    have hpq : p = q := hrq
    subst hpq
    by_cases hmem : p ∈ targets
    · have hqueued : PartState.queued = σ := by simpa [newPart, hmem] using hrσ
      exact ⟨hqueued.symm, (PortSet.mem_toList members p).1 hp, hmem⟩
    · have hdown : PartState.resolved .down = σ := by simpa [newPart, hmem] using hrσ
      rcases hσ with rfl | rfl <;> cases hdown
  · rintro ⟨rfl, hmember, hmem⟩
    refine ⟨.inl rfl, newPart (targets.contains q) q,
      List.mem_map_of_mem ((PortSet.mem_toList members q).2 hmember), rfl, ?_⟩
    simp [newPart, hmem]

end Sys2Proof.Machine

/-! SUPPORT. One port and the unresolved port records that name it (R84, R90, R103, R115). -/

namespace Sys2Proof.Machine

/-! ### Links of one port -/

/-- R84, R90, R115: the links of a port agree with the unresolved parts that name it. -/
structure Port.Linked (pends : Tag → PartState → Prop) (x : Port) : Prop where
  queue : ∀ y ∈ x.queue, ∀ t, y.link = some t → y.tag = t ∧ pends t .queued
  last : answersLast x.queue = true
  pending : ∀ a, x.pendingAnswer = some a → ∀ t, a.link = some t →
    a.tag = t ∧ pends t .queued ∧ ∀ y ∈ x.queue, y.link ≠ some t
  exchange : ∀ e, x.exchange = some e → e.hasResult = true → pends e.tag .awaiting
  queued : ∀ t, pends t .queued → (∃ a, x.pendingAnswer = some a ∧ a.link = some t)
    ∨ ∃ y ∈ x.queue, y.link = some t ∧ y.answerRequired = true
  awaiting : ∀ t, pends t .awaiting → ∃ e, x.exchange = some e ∧ e.hasResult = true ∧ e.tag = t

theorem State.linksSound_iff {s : State} :
    s.linksSound ↔ ∀ p, (s.port p).Linked (s.Pends p) := by
  have hqueued {t : Tag} {p : PortId} : s.partIn t p .queued = true ↔ s.Pends p t .queued :=
    State.partIn_iff (.inl rfl)
  have hawaiting {t : Tag} {p : PortId} : s.partIn t p .awaiting = true ↔ s.Pends p t .awaiting :=
    State.partIn_iff (.inr rfl)
  have hbacked (t : Tag) (r : PortRecord) : s.partBacked t r = true
      ↔ (r.state = .queued → (∃ a, (s.port r.port).pendingAnswer = some a ∧ a.link = some t)
          ∨ ∃ y ∈ (s.port r.port).queue, y.link = some t ∧ y.answerRequired = true)
        ∧ (r.state = .awaiting → ∃ e, (s.port r.port).exchange = some e ∧ e.hasResult = true ∧ e.tag = t) := by
    unfold State.partBacked
    cases r.state <;> simp [Option.any_eq_true, Piece.linkedTo]
  constructor
  · rintro ⟨hgood, hparts⟩ p
    have h := hgood p
    simp only [State.linksGood, Bool.and_eq_true, List.all_eq_true, Option.all_eq_true, beq_iff_eq,
      hqueued, hawaiting, Bool.or_eq_true, Bool.not_eq_true', List.any_eq_false, Piece.linkedTo] at h
    obtain ⟨⟨⟨hqueue, hlast⟩, hpending⟩, hexchange⟩ := h
    have hback {t : Tag} {σ : PartState} (ht : s.Pends p t σ) :
        ∃ r, r.port = p ∧ r.state = σ ∧ s.partBacked t r = true := by
      obtain ⟨x, hx, ho, -, r, hr, hrp, hrσ⟩ := ht
      have hall := hparts t
      rw [hx, Option.all_some, ho] at hall
      have hall : x.parts.all (s.partBacked t) = true := hall
      exact ⟨r, hrp, hrσ, List.all_eq_true.1 hall r hr⟩
    refine ⟨hqueue, hlast, ?_, ?_, ?_, ?_⟩
    · intro a ha t ht
      obtain ⟨⟨htag, hpends⟩, hnone⟩ := hpending a ha t ht
      exact ⟨htag, hpends, hnone⟩
    · intro e he hres
      exact (hexchange e he).resolve_left (by simp [hres])
    · intro t ht
      obtain ⟨r, rfl, hrσ, hr⟩ := hback ht
      exact ((hbacked t r).1 hr).1 hrσ
    · intro t ht
      obtain ⟨r, rfl, hrσ, hr⟩ := hback ht
      exact ((hbacked t r).1 hr).2 hrσ
  · intro h
    refine ⟨fun p => ?_, fun t => ?_⟩
    · obtain ⟨hqueue, hlast, hpending, hexchange, -, -⟩ := h p
      simp only [State.linksGood, Bool.and_eq_true, List.all_eq_true, Option.all_eq_true, beq_iff_eq,
        hqueued, hawaiting, Bool.or_eq_true, Bool.not_eq_true', List.any_eq_false, Piece.linkedTo]
      refine ⟨⟨⟨hqueue, hlast⟩, ?_⟩, ?_⟩
      · intro a ha t ht
        obtain ⟨htag, hpends, hnone⟩ := hpending a ha t ht
        exact ⟨⟨htag, hpends⟩, hnone⟩
      · intro e he
        cases hres : e.hasResult with
        | false => exact .inl rfl
        | true => exact .inr (hexchange e he hres)
    · cases hx : s.record t with
      | none => rfl
      | some x =>
        rw [Option.all_some]
        cases ho : x.state with
        | done => rfl
        | opened =>
          refine List.all_eq_true.2 fun r hr => (hbacked t r).2 ⟨fun hrσ => ?_, fun hrσ => ?_⟩
          · exact (h r.port).queued t ⟨x, hx, ho, .inl rfl, r, hr, rfl, hrσ⟩
          · exact (h r.port).awaiting t ⟨x, hx, ho, .inr rfl, r, hr, rfl, hrσ⟩

/-! ### The last piece of a transaction -/

/-- An answer-required piece is the last that carries its link. -/
theorem answersLast_iff (l : List Piece) : answersLast l = true
    ↔ l.Pairwise fun x y => ∀ t, x.link = some t → x.answerRequired = true → y.link ≠ some t := by
  induction l with
  | nil => simp [answersLast]
  | cons x xs ih =>
    rw [answersLast, Bool.and_eq_true, ih, List.pairwise_cons]
    refine and_congr_left' ?_
    cases hl : x.link with
    | none => simp
    | some t =>
      simp only [Bool.or_eq_true, Bool.not_eq_true', List.any_eq_false, Piece.linkedTo, beq_iff_eq,
        Option.some.injEq]
      constructor
      · rintro (h | h) y hy k rfl ha
        · simp [h] at ha
        · exact h y hy
      · intro h
        cases ha : x.answerRequired with
        | false => exact .inl rfl
        | true => exact .inr fun y hy => h y hy t rfl ha

/-! ### What leaves the links of a port as they are -/

section
variable {pends : Tag → PartState → Prop} {x y : Port}

/-- Only the queue, the pending answer and the exchange carry links. -/
theorem Port.Linked.congr (h : x.Linked pends) (hq : y.queue = x.queue)
    (ha : y.pendingAnswer = x.pendingAnswer) (he : y.exchange = x.exchange) : y.Linked pends := by
  obtain ⟨h1, h2, h3, h4, h5, h6⟩ := h
  rw [← hq] at h1 h2 h3 h5
  rw [← ha] at h3 h5
  rw [← he] at h4 h6
  exact ⟨h1, h2, h3, h4, h5, h6⟩

theorem Port.Linked.mono {pends' : Tag → PartState → Prop} (h : x.Linked pends)
    (hp : ∀ t σ, pends' t σ ↔ pends t σ) : x.Linked pends' := by
  have : pends' = pends := funext₂ fun t σ => propext (hp t σ)
  rwa [this]

/-- A port with nothing left, and nothing that pends. -/
theorem Port.linked_of_empty (hq : x.queue = []) (ha : x.pendingAnswer = none) (he : x.exchange = none)
    (hp : ∀ t σ, ¬ pends t σ) : x.Linked pends where
  queue := by simp [hq]
  last := by simp [hq, answersLast]
  pending := by simp [ha]
  exchange := by simp [he]
  queued t ht := absurd ht (hp t _)
  awaiting t ht := absurd ht (hp t _)

theorem Port.Linked.judge (h : x.Linked pends) (wanted : Bool) : (x.judge wanted).Linked pends :=
  h.congr (x.judge_queue wanted) (congrArg Port.pendingAnswer (x.judge_keeps wanted) :)
    (congrArg Port.exchange (x.judge_keeps wanted) :)

/-- An exchange that takes what arrives keeps its transaction. -/
theorem Port.Linked.received (h : x.Linked pends) {f : Exchange → Exchange}
    (hf : ∀ e, (f e).tag = e.tag ∧ (f e).answers = e.answers ∧ (f e).orphan = e.orphan)
    (hq : y.queue = x.queue) (ha : y.pendingAnswer = x.pendingAnswer)
    (he : y.exchange = x.exchange.map f) : y.Linked pends := by
  have hres (e : Exchange) : (f e).hasResult = e.hasResult := by
    simp only [Exchange.hasResult, (hf e).2.1, (hf e).2.2]
  obtain ⟨hqueue, hlast, hpending, hexchange, hqueued, hawaiting⟩ := h
  rw [← hq] at hqueue hlast hpending hqueued
  rw [← ha] at hpending hqueued
  refine ⟨hqueue, hlast, hpending, fun e hye hr => ?_, hqueued, fun t ht => ?_⟩
  · rw [he] at hye
    obtain ⟨d, hd, rfl⟩ := Option.map_eq_some_iff.1 hye
    rw [(hf d).1]
    exact hexchange d hd (hres d ▸ hr)
  · obtain ⟨e, hxe, hr, htag⟩ := hawaiting t ht
    exact ⟨f e, by simp [he, hxe], (hres e).trans hr, (hf e).1.trans htag⟩

/-- R88, R90: the pending answer takes the link of the piece just sent. -/
theorem Port.Linked.sent (h : x.Linked pends) {head : Piece} {rest : List Piece}
    (hq : x.queue = head :: rest) (ha : x.pendingAnswer = none) : (x.afterPiece head rest).Linked pends := by
  obtain ⟨hqueue, hlast, -, hexchange, hqueued, hawaiting⟩ := h
  rw [hq] at hqueue hlast hqueued
  obtain ⟨hhead, hrest⟩ := List.forall_mem_cons.1 hqueue
  obtain ⟨hafter, htail⟩ := List.pairwise_cons.1 ((answersLast_iff _).1 hlast)
  have hbacked (t : Tag) (ht : pends t .queued) : (head.link = some t ∧ head.answerRequired = true)
      ∨ ∃ z ∈ rest, z.link = some t ∧ z.answerRequired = true := by
    rcases hqueued t ht with ⟨a, hxa, -⟩ | ⟨z, hz, hlink, hreq⟩
    · rw [ha] at hxa; cases hxa
    · rcases List.mem_cons.1 hz with rfl | hz
      · exact .inl ⟨hlink, hreq⟩
      · exact .inr ⟨z, hz, hlink, hreq⟩
  -- a burst that goes on, or ends, keeps what waits
  have waiting {z : Port} (hzq : z.queue = rest) (hza : z.pendingAnswer = none)
      (hze : z.exchange = x.exchange) (hreq : head.answerRequired = false) : z.Linked pends := by
    rw [← hzq] at hrest htail hbacked
    rw [← hze] at hexchange hawaiting
    exact ⟨hrest, (answersLast_iff _).2 htail, by simp [hza], hexchange,
      fun t ht => .inr ((hbacked t ht).resolve_left fun h => by simp [hreq] at h), hawaiting⟩
  unfold Port.afterPiece
  split
  next hreq =>
    refine ⟨hrest, (answersLast_iff _).2 htail, fun a hxa t ht => ?_, hexchange, fun t ht => ?_, hawaiting⟩
    · cases hxa
      exact ⟨(hhead t ht).1, (hhead t ht).2, fun z hz => hafter z hz t ht hreq⟩
    · exact (hbacked t ht).imp (fun h => ⟨_, rfl, h.1⟩) id
  next hreq =>
    have hreq : head.answerRequired = false := by simpa using hreq
    split
    · exact waiting rfl ha rfl hreq
    · exact waiting rfl ha rfl hreq

/-- R90: an exchange without an answer for the table opens. -/
theorem Port.Linked.watchOpened (h : x.Linked pends) (ha : x.pendingAnswer = none)
    (he : x.exchange = none) : x.openWatch.Linked pends := by
  obtain ⟨hqueue, hlast, -, -, hqueued, hawaiting⟩ := h
  refine ⟨hqueue, hlast, fun a hxa => (nomatch hxa), fun e hxe hr => ?_, fun t ht => ?_, fun t ht => ?_⟩
  · cases hxe
    cases hr
  · rw [ha] at hqueued
    exact hqueued t ht
  · obtain ⟨e, hxe, -⟩ := hawaiting t ht
    rw [he] at hxe
    cases hxe

end

/-! ### What resolves parts of a port -/

section
variable {pends pends' : Tag → PartState → Prop} {x : Port}

/-- R90, R115: the exchange of the pending answer opens, and its part awaits. -/
theorem Port.Linked.exchangeOpened (h : x.Linked pends) {a : PendingAnswer}
    (ha : x.pendingAnswer = some a) (hanswers : a.answers ≠ .watch) (he : x.exchange = none)
    (hp : ∀ t σ, pends' t σ ↔
      if a.link = some t then σ = .awaiting ∧ ∃ τ, pends t τ else pends t σ) :
    (x.openExchange a).Linked pends' := by
  obtain ⟨hqueue, hlast, hpending, -, hqueued, hawaiting⟩ := h
  have hnone (t : Tag) : ¬ pends t .awaiting := fun ht => by
    obtain ⟨e, hxe, -⟩ := hawaiting t ht
    rw [he] at hxe
    cases hxe
  have hkeeps (t : Tag) (hta : a.link ≠ some t) (σ : PartState) : pends' t σ ↔ pends t σ := by
    rw [hp, if_neg hta]
  refine ⟨fun y hy t ht => ?_, hlast, fun b hb => (nomatch hb), fun e hxe hr => ?_, fun t ht => ?_,
    fun t ht => ?_⟩
  · have hta : a.link ≠ some t := fun hl => (hpending a ha t hl).2.2 y hy ht
    rw [hkeeps t hta]
    exact hqueue y hy t ht
  · cases hxe
    cases hl : a.link with
    | none => simp [Exchange.hasResult_iff, PendingAnswer.opened, hl] at hr
    | some t =>
      obtain ⟨htag, hpend, -⟩ := hpending a ha t hl
      have htag : a.opened.tag = t := htag
      rw [htag, hp, if_pos hl]
      exact ⟨rfl, _, hpend⟩
  · rw [hp] at ht
    split at ht
    · cases ht.1
    next hta =>
      rcases hqueued t ht with ⟨b, hb, hlink⟩ | hpiece
      · cases ha.symm.trans hb
        exact absurd hlink hta
      · exact .inr hpiece
  · rw [hp] at ht
    split at ht
    next hl =>
      obtain ⟨htag, -⟩ := hpending a ha t hl
      refine ⟨a.opened, rfl, ?_, htag⟩
      rw [Exchange.hasResult_iff]
      exact ⟨hanswers, by simp [PendingAnswer.opened, hl]⟩
    next => exact absurd ht (hnone t)

/-- R95, R116: the exchange ends, and its part is resolved. -/
theorem Port.Linked.exchangeEnded (h : x.Linked pends) {e : Exchange} (he : x.exchange = some e)
    (ha : x.pendingAnswer = none) (hu : ∀ t, pends t .queued → ¬ pends t .awaiting)
    (hp : ∀ t σ, pends' t σ ↔ pends t σ ∧ ¬ (e.hasResult = true ∧ t = e.tag)) :
    x.endExchange.Linked pends' := by
  obtain ⟨hqueue, hlast, -, hexchange, hqueued, hawaiting⟩ := h
  refine ⟨fun y hy t ht => ?_, hlast, fun b hb => ?_, fun d hd => (nomatch hd), fun t ht => ?_, fun t ht => ?_⟩
  · obtain ⟨htag, hpend⟩ := hqueue y hy t ht
    refine ⟨htag, (hp t _).2 ⟨hpend, ?_⟩⟩
    rintro ⟨hres, rfl⟩
    exact hu _ hpend (hexchange e he hres)
  · rw [show x.endExchange.pendingAnswer = none from ha] at hb
    cases hb
  · exact hqueued t ((hp t _).1 ht).1
  · obtain ⟨hpend, hnot⟩ := (hp t _).1 ht
    obtain ⟨d, hd, hres, htag⟩ := hawaiting t hpend
    cases he.symm.trans hd
    exact absurd ⟨hres, htag.symm⟩ hnot

theorem mem_linkedTags {l : List Piece} {t : Tag} :
    t ∈ linkedTags l ↔ ∃ y ∈ l, y.link = some t := by
  rw [linkedTags, List.mem_eraseDups, List.mem_filterMap]

/-- R100: every transaction that pends on a port is named by a notice of its flush. -/
theorem Port.Linked.noticed (h : x.Linked pends) (hx : x.exchange ≠ none → x.pendingAnswer = none)
    {why : FlushCause} (hwhy : why ≠ .hubClear) {t : Tag} {σ : PartState}
    (hσ : σ = .queued ∨ σ = .awaiting) (ht : pends t σ) :
    t ∈ (x.notices why).map Notice.tag := by
  have hmem (hcase : x.ownTag = some t ∨ ∃ y ∈ x.queue, y.link = some t) :
      t ∈ (x.notices why).map Notice.tag := by
    rw [Port.notices, if_neg hwhy, List.map_append, List.mem_append, List.map_map]
    rcases hcase with hown | hpiece
    · exact .inl (by simp [hown])
    · exact .inr (List.mem_map.2 ⟨t, mem_linkedTags.2 hpiece, rfl⟩)
  rcases hσ with rfl | rfl
  · rcases h.queued t ht with ⟨a, ha, hlink⟩ | ⟨y, hy, hlink, -⟩
    · have hnone : x.exchange = none := by
        by_contra hne
        rw [hx hne] at ha
        cases ha
      exact hmem (.inl (by simp [Port.ownTag, hnone, ha, hlink]))
    · exact hmem (.inr ⟨y, hy, hlink⟩)
  · obtain ⟨e, he, hres, htag⟩ := h.awaiting t ht
    exact hmem (.inl (by simp [Port.ownTag, he, hres, htag]))

/-- R61, R114: the pieces of an admitted request join the queue. -/
theorem Port.Linked.admitted (h : x.Linked pends) {t : Tag} {ps : List Piece}
    (hfree : ∀ σ, ¬ pends t σ) (hlinks : ∀ y ∈ ps, ∀ k, y.link = some k → k = t ∧ y.tag = t)
    (hlast : answersLast ps = true) (hreq : ∃ y ∈ ps, y.link = some t ∧ y.answerRequired = true)
    (hp : ∀ k σ, pends' k σ ↔ if k = t then σ = .queued else pends k σ) :
    (x.append ps).Linked pends' := by
  obtain ⟨hqueue, hxlast, hpending, hexchange, hqueued, hawaiting⟩ := h
  have hother {k : Tag} {σ : PartState} (hk : pends k σ) : k ≠ t ∧ pends' k σ := by
    have hne : k ≠ t := by rintro rfl; exact hfree σ hk
    exact ⟨hne, (hp k σ).2 (by rwa [if_neg hne])⟩
  refine ⟨fun y hy k hk => ?_, ?_, fun a ha k hk => ?_, fun e he hres => ?_, fun k hk => ?_, fun k hk => ?_⟩
  · rcases List.mem_append.1 hy with hy | hy
    · obtain ⟨htag, hpend⟩ := hqueue y hy k hk
      exact ⟨htag, (hother hpend).2⟩
    · obtain ⟨rfl, htag⟩ := hlinks y hy k hk
      exact ⟨htag, (hp k _).2 (if_pos rfl ▸ rfl)⟩
  · refine (answersLast_iff _).2 (List.pairwise_append.2
      ⟨(answersLast_iff _).1 hxlast, (answersLast_iff _).1 hlast, fun y hy z hz k hk _ hzk => ?_⟩)
    exact (hother (hqueue y hy k hk).2).1 (hlinks z hz k hzk).1
  · obtain ⟨htag, hpend, hnone⟩ := hpending a ha k hk
    refine ⟨htag, (hother hpend).2, fun y hy hyk => ?_⟩
    rcases List.mem_append.1 hy with hy | hy
    · exact hnone y hy hyk
    · exact (hother hpend).1 (hlinks y hy k hyk).1
  · exact (hother (hexchange e he hres)).2
  · rw [hp] at hk
    split at hk
    next hkt =>
      subst hkt
      obtain ⟨y, hy, hrest⟩ := hreq
      exact .inr ⟨y, List.mem_append.2 (.inr hy), hrest⟩
    next =>
      refine (hqueued k hk).imp_right ?_
      rintro ⟨y, hy, hrest⟩
      exact ⟨y, List.mem_append.2 (.inl hy), hrest⟩
  · rw [hp] at hk
    split at hk
    · cases hk
    · exact hawaiting k hk

/-- Pieces without a link join the queue. -/
theorem Port.Linked.joined (h : x.Linked pends) {ps : List Piece} (hlinks : ∀ y ∈ ps, y.link = none) :
    (x.append ps).Linked pends := by
  obtain ⟨hqueue, hlast, hpending, hexchange, hqueued, hawaiting⟩ := h
  refine ⟨fun y hy k hk => ?_, ?_, fun a ha k hk => ?_, hexchange, fun k hk => ?_, hawaiting⟩
  · rcases List.mem_append.1 hy with hy | hy
    · exact hqueue y hy k hk
    · rw [hlinks y hy] at hk
      cases hk
  · refine (answersLast_iff _).2 (List.pairwise_append.2 ⟨(answersLast_iff _).1 hlast, ?_, ?_⟩)
    · exact List.pairwise_of_forall_mem_list fun y hy z _ => by simp [hlinks y hy]
    · intro y _ z hz
      simp [hlinks z hz]
  · obtain ⟨htag, hpend, hnone⟩ := hpending a ha k hk
    refine ⟨htag, hpend, fun y hy hyk => ?_⟩
    rcases List.mem_append.1 hy with hy | hy
    · exact hnone y hy hyk
    · rw [hlinks y hy] at hyk
      cases hyk
  · refine (hqueued k hk).imp_right ?_
    rintro ⟨y, hy, hrest⟩
    exact ⟨y, List.mem_append.2 (.inl hy), hrest⟩

/-! ### A deadline -/

theorem Piece.stripped_link {t k : Tag} {y : Piece} :
    (y.stripped t).link = some k ↔ y.link = some k ∧ k ≠ t := by
  unfold Piece.stripped
  split
  next h => simp [h, eq_comm]
  next h =>
    refine ⟨fun hk => ⟨hk, ?_⟩, And.left⟩
    rintro rfl
    exact h hk

theorem PendingAnswer.stripped_link {t k : Tag} {a : PendingAnswer} :
    (a.stripped t).link = some k ↔ a.link = some k ∧ k ≠ t := by
  unfold PendingAnswer.stripped
  split
  next h => simp [h, eq_comm]
  next h =>
    refine ⟨fun hk => ⟨hk, ?_⟩, And.left⟩
    rintro rfl
    exact h hk

@[simp] theorem Piece.stripped_tag (t : Tag) (y : Piece) : (y.stripped t).tag = y.tag := by
  unfold Piece.stripped
  split <;> rfl

@[simp] theorem Piece.stripped_answerRequired (t : Tag) (y : Piece) :
    (y.stripped t).answerRequired = y.answerRequired := by
  unfold Piece.stripped
  split <;> rfl

@[simp] theorem PendingAnswer.stripped_tag (t : Tag) (a : PendingAnswer) : (a.stripped t).tag = a.tag := by
  unfold PendingAnswer.stripped
  split <;> rfl

/-- R85: what a withdrawal leaves is the queue without the pieces of the transaction, but for the piece
on the wire. -/
theorem Port.withdraw_queue_cases (x : Port) (t : Tag) :
    (x.withdraw t).queue = (x.queue.filter fun y => !y.linkedTo t)
      ∨ ∃ head rest, x.queue = head :: rest
        ∧ (x.withdraw t).queue = head.stripped t :: rest.filter fun y => !y.linkedTo t := by
  unfold Port.withdraw Port.withdrawnQueue Port.waitingPieces
  rcases x.onWire_cases with hwire | ⟨head, rest, hq, hwire⟩
  · exact .inl (by simp [hwire])
  · exact .inr ⟨head, rest, hq, by simp [hwire, hq]⟩

theorem linkedTo_iff {t : Tag} {y : Piece} : (!y.linkedTo t) = true ↔ y.link ≠ some t := by
  simp [Piece.linkedTo]

/-- A piece that a withdrawal leaves with a link stood in the queue with it. -/
theorem Port.mem_withdraw {t k : Tag} {y : Piece} (hy : y ∈ (x.withdraw t).queue) (hk : y.link = some k) :
    k ≠ t ∧ ∃ z ∈ x.queue, z.link = some k ∧ z.tag = y.tag := by
  have hne : k ≠ t := by rintro rfl; exact x.withdraw_unlinked k y hy hk
  refine ⟨hne, ?_⟩
  rcases x.withdraw_queue_cases t with hq | ⟨head, rest, hxq, hq⟩
  · rw [hq] at hy
    exact ⟨y, (List.mem_filter.1 hy).1, hk, rfl⟩
  · rw [hq] at hy
    rcases List.mem_cons.1 hy with rfl | hy
    · exact ⟨head, by simp [hxq], (Piece.stripped_link.1 hk).1, (Piece.stripped_tag t head).symm⟩
    · exact ⟨y, by simp [hxq, (List.mem_filter.1 hy).1], hk, rfl⟩

/-- A piece of another transaction stays in the queue. -/
theorem Port.withdraw_leaves {t k : Tag} (hkt : k ≠ t) {y : Piece} (hy : y ∈ x.queue)
    (hk : y.link = some k) (hreq : y.answerRequired = true) :
    ∃ z ∈ (x.withdraw t).queue, z.link = some k ∧ z.answerRequired = true := by
  have hnot : y.link ≠ some t := by
    rw [hk]
    simpa using hkt
  rcases x.withdraw_queue_cases t with hq | ⟨head, rest, hxq, hq⟩
  · exact ⟨y, hq ▸ List.mem_filter.2 ⟨hy, linkedTo_iff.2 hnot⟩, hk, hreq⟩
  · rw [hxq] at hy
    rcases List.mem_cons.1 hy with rfl | hy
    · exact ⟨y.stripped t, by simp [hq], Piece.stripped_link.2 ⟨hk, hkt⟩, by simpa using hreq⟩
    · exact ⟨y, by simp [hq, hy, Piece.linkedTo, hnot], hk, hreq⟩

theorem Port.withdraw_last {t : Tag} (h : answersLast x.queue = true) :
    answersLast (x.withdraw t).queue = true := by
  rw [answersLast_iff] at h ⊢
  rcases x.withdraw_queue_cases t with hq | ⟨head, rest, hxq, hq⟩
  · rw [hq]
    exact h.sublist List.filter_sublist
  · rw [hxq, List.pairwise_cons] at h
    rw [hq, List.pairwise_cons]
    refine ⟨fun y hy k hk hreq => ?_, h.2.sublist List.filter_sublist⟩
    exact h.1 y (List.mem_filter.1 hy).1 k (Piece.stripped_link.1 hk).1 (by simpa using hreq)

/-- R121: the pieces of an expired transaction are withdrawn. -/
theorem Port.Linked.withdraw (h : x.Linked pends) {t : Tag} (hnot : ¬ pends t .awaiting)
    (hp : ∀ k σ, pends' k σ ↔ k ≠ t ∧ pends k σ) : (x.withdraw t).Linked pends' := by
  obtain ⟨hqueue, hlast, hpending, hexchange, hqueued, hawaiting⟩ := h
  refine ⟨fun y hy k hk => ?_, Port.withdraw_last hlast, fun a ha k hk => ?_, fun e he hres => ?_,
    fun k hk => ?_, fun k hk => hawaiting k ((hp k _).1 hk).2⟩
  · obtain ⟨hkt, z, hz, hzk, htag⟩ := Port.mem_withdraw hy hk
    obtain ⟨hztag, hpend⟩ := hqueue z hz k hzk
    exact ⟨htag ▸ hztag, (hp k _).2 ⟨hkt, hpend⟩⟩
  · obtain ⟨b, hb, rfl⟩ := Option.map_eq_some_iff.1 ha
    obtain ⟨hbk, hkt⟩ := PendingAnswer.stripped_link.1 hk
    obtain ⟨htag, hpend, hnone⟩ := hpending b hb k hbk
    refine ⟨by simpa using htag, (hp k _).2 ⟨hkt, hpend⟩, fun y hy hyk => ?_⟩
    obtain ⟨-, z, hz, hzk, -⟩ := Port.mem_withdraw hy hyk
    exact hnone z hz hzk
  · have hpend := hexchange e he hres
    exact (hp _ _).2 ⟨fun htag => hnot (htag ▸ hpend), hpend⟩
  · obtain ⟨hkt, hpend⟩ := (hp k _).1 hk
    rcases hqueued k hpend with ⟨a, ha, hlink⟩ | ⟨y, hy, hlink, hreq⟩
    · exact .inl ⟨a.stripped t, by simp [Port.withdraw, ha], PendingAnswer.stripped_link.2 ⟨hlink, hkt⟩⟩
    · exact .inr (Port.withdraw_leaves hkt hy hlink hreq)

/-- R121: the exchange of an expired transaction becomes an orphan. -/
theorem Port.Linked.orphaned (h : x.Linked pends) {t : Tag} (hnot : ¬ pends t .queued)
    (ht : pends t .awaiting) (hp : ∀ k σ, pends' k σ ↔ k ≠ t ∧ pends k σ) :
    x.orphaned.Linked pends' := by
  obtain ⟨hqueue, hlast, hpending, hexchange, hqueued, hawaiting⟩ := h
  have hother {k : Tag} (hk : pends k .queued) : pends' k .queued :=
    (hp k _).2 ⟨by rintro rfl; exact hnot hk, hk⟩
  refine ⟨fun y hy k hk => ?_, hlast, fun a ha k hk => ?_, fun e he hres => ?_,
    fun k hk => hqueued k ((hp k _).1 hk).2, fun k hk => ?_⟩
  · obtain ⟨htag, hpend⟩ := hqueue y hy k hk
    exact ⟨htag, hother hpend⟩
  · obtain ⟨htag, hpend, hnone⟩ := hpending a ha k hk
    exact ⟨htag, hother hpend, hnone⟩
  · obtain ⟨d, -, rfl⟩ := Option.map_eq_some_iff.1 he
    simp [Exchange.hasResult_iff] at hres
  · obtain ⟨hkt, hpend⟩ := (hp k _).1 hk
    obtain ⟨e, he, -, htag⟩ := hawaiting t ht
    obtain ⟨d, hd, -, hdtag⟩ := hawaiting k hpend
    cases he.symm.trans hd
    exact absurd (hdtag.symm.trans htag) hkt

/-- R121: a port without an unresolved part of the expired transaction. -/
theorem Port.Linked.spared (h : x.Linked pends) {t : Tag} (hnot : ∀ σ, ¬ pends t σ)
    (hp : ∀ k σ, pends' k σ ↔ k ≠ t ∧ pends k σ) : x.Linked pends' :=
  h.mono fun k σ => (hp k σ).trans
    ⟨And.right, fun hk => ⟨by rintro rfl; exact hnot σ hk, hk⟩⟩

end

end Sys2Proof.Machine

/-! SUPPORT. The pieces of a tagged request, and the answer they ask for (R61, R74 to R78). -/

namespace Sys2Proof.Machine

/-- R61, R70: the pieces of a tagged request: all but a LIMIT carry its tag, and only the last asks for an
answer. -/
structure RequestPieces (t : Tag) (ps : List Piece) : Prop where
  tags : ∀ y ∈ ps, y.kind = .limit ∨ y.tag = t
  links : ∀ y ∈ ps, y.link = none
  last : ∃ init last, ps = init ++ [last] ∧ (∀ y ∈ init, y.answerRequired = false)
    ∧ last.answerRequired = true ∧ last.kind ≠ .limit

theorem readPieces_request (out n : Nat) (limit : Option Nat) (h : Header) (payload : List Byte) :
    RequestPieces h.tag (readPieces out n limit h payload) := by
  unfold readPieces
  split
  · exact ⟨by simp [readPiece], by simp [readPiece], [], _, rfl, by simp, rfl, by simp [readPiece]⟩
  · exact ⟨by simp [readPiece, limitPiece, plainPiece], by simp [readPiece, limitPiece, plainPiece],
      [limitPiece out n], _, rfl, by simp [limitPiece, plainPiece], rfl, by simp [readPiece]⟩

/-- R75: a WRITE that is cut is cut into at least one piece. -/
theorem splitCount_pos {len size : Nat} (hs : 2 ≤ size) (hl : size < len) : 1 ≤ splitCount len size := by
  unfold splitCount
  rw [Nat.le_div_iff_mul_le (by omega)]
  omega

theorem writePieces_request {out size : Nat} {pairs : List SplitPair} {h : Header} {payload : List Byte}
    (ha : h.ackRequest = true) (hs : 2 ≤ size) :
    RequestPieces h.tag (writePieces out size pairs h payload) := by
  unfold writePieces
  split
  · exact ⟨by simp [writePiece], by simp [writePiece], [], _, rfl, by simp, by simp [writePiece, ha],
      by simp [writePiece]⟩
  next hlong =>
    obtain ⟨n, hn⟩ : ∃ n, splitCount payload.length size = n + 1 :=
      Nat.exists_eq_add_of_le' (splitCount_pos hs (Nat.lt_of_not_le hlong))
    refine ⟨by simp [writePiece], by simp [writePiece], ?_⟩
    refine ⟨(List.range n).map fun k => writePiece out h (k + 1) (n + 1) (splitPayload size pairs payload k),
      writePiece out h (n + 1) (n + 1) (splitPayload size pairs payload n), ?_, ?_, ?_, ?_⟩
    · simp only [hn, List.range_succ, List.map_append]
      rfl
    · intro y hy
      obtain ⟨k, hk, rfl⟩ := List.mem_map.1 hy
      have hlt : k < n := List.mem_range.1 hk
      simp [writePiece, hlt.ne]
    · simp [writePiece, ha]
    · simp [writePiece]

/-- R52: a READ or a WRITE is sliced under a COMMAND entry only. -/
theorem slicePacket_request {kind : StreamKind} {h : Header} {payload : List Byte} {out : Nat}
    {fields : EntryClass} {members : PortSet} (hv : fields.valid members = true) {live : List PortId}
    {limitOf : PortId → Option Nat} {k : RequestKind} (hk : kind.tagged h = some k) {x : PortPieces}
    (hx : x ∈ slicePacket kind h payload out fields live limitOf) : RequestPieces h.tag x.pieces := by
  unfold slicePacket at hx
  split at hx
  · cases hk
  · cases hk
  next size _ pairs =>
    obtain ⟨p, -, rfl⟩ := List.mem_map.1 hx
    have hack : h.ackRequest = true := by
      by_contra hno
      simp [StreamKind.tagged, hno] at hk
    have hsize : 16 ≤ size := by
      simp only [EntryClass.valid, Bool.and_eq_true, decide_eq_true_eq] at hv
      omega
    exact writePieces_request hack (by omega)
  next n _ =>
    obtain ⟨p, -, rfl⟩ := List.mem_map.1 hx
    exact readPieces_request out n _ h payload
  · cases hx

theorem lineFor_link {out size : Nat} {windows : Vector (Option Window) 4} {h : Header}
    {payload : List Byte} {p : PortId} {x : PortPieces}
    (hx : lineFor out size windows h payload p = some x) : ∀ y ∈ x.pieces, y.link = none := by
  unfold lineFor at hx
  split at hx
  · split at hx <;> cases hx
    simp [linePiece, plainPiece]
  · cases hx

/-- R70: no piece carries a link as the slicer forms it. -/
theorem slicePacket_link {kind : StreamKind} {h : Header} {payload : List Byte} {out : Nat}
    {fields : EntryClass} {live : List PortId} {limitOf : PortId → Option Nat} {x : PortPieces}
    (hx : x ∈ slicePacket kind h payload out fields live limitOf) : ∀ y ∈ x.pieces, y.link = none := by
  unfold slicePacket at hx
  split at hx
  · obtain ⟨p, -, rfl⟩ := List.mem_map.1 hx
    simp [frameStartFor, plainPiece]
  · obtain ⟨p, -, hp⟩ := List.mem_filterMap.1 hx
    exact lineFor_link hp
  · obtain ⟨p, -, rfl⟩ := List.mem_map.1 hx
    intro y hy
    simp only [writePieces] at hy
    split at hy
    · simp only [List.mem_singleton] at hy
      rw [hy]
      rfl
    · obtain ⟨j, -, rfl⟩ := List.mem_map.1 hy
      rfl
  · obtain ⟨p, -, rfl⟩ := List.mem_map.1 hx
    exact (readPieces_request out _ _ h payload).links
  · cases hx

/-! ### Linked pieces -/

theorem linkPiece_link {t k : Tag} {y : Piece} (hy : y.link = none) :
    (linkPiece t y).link = some k ↔ k = t ∧ y.kind ≠ .limit := by
  unfold linkPiece
  split
  next hk => simp [hk, hy]
  all_goals
    next hk => simp [hk, eq_comm]

@[simp] theorem linkPiece_tag (t : Tag) (y : Piece) : (linkPiece t y).tag = y.tag := by
  unfold linkPiece
  split <;> rfl

@[simp] theorem linkPiece_answerRequired (t : Tag) (y : Piece) :
    (linkPiece t y).answerRequired = y.answerRequired := by
  unfold linkPiece
  split <;> rfl

/-- R61: the linked pieces of a tagged request. -/
theorem RequestPieces.linked {t : Tag} {ps : List Piece} (h : RequestPieces t ps) :
    (∀ y ∈ ps.map (linkPiece t), ∀ k, y.link = some k → k = t ∧ y.tag = t)
      ∧ answersLast (ps.map (linkPiece t)) = true
      ∧ ∃ y ∈ ps.map (linkPiece t), y.link = some t ∧ y.answerRequired = true := by
  obtain ⟨htags, hlinks, init, last, rfl, hinit, hreq, hkind⟩ := h
  refine ⟨fun y hy k hk => ?_, ?_, ?_⟩
  · obtain ⟨z, hz, rfl⟩ := List.mem_map.1 hy
    obtain ⟨rfl, hlimit⟩ := (linkPiece_link (hlinks z hz)).1 hk
    exact ⟨rfl, by simpa using (htags z hz).resolve_left hlimit⟩
  · rw [answersLast_iff, List.map_append, List.pairwise_append]
    have hinit' : ∀ y ∈ init.map (linkPiece t), y.answerRequired = false := by
      intro y hy
      obtain ⟨z, hz, rfl⟩ := List.mem_map.1 hy
      simpa using hinit z hz
    refine ⟨List.pairwise_of_forall_mem_list fun y hy z _ k _ ha => ?_, by simp, fun y hy z _ k _ ha => ?_⟩
    all_goals simp [hinit' y hy] at ha
  · exact ⟨linkPiece t last, List.mem_map_of_mem (by simp),
      (linkPiece_link (hlinks last (by simp))).2 ⟨rfl, hkind⟩, by simpa using hreq⟩

end Sys2Proof.Machine

/-! SUPPORT and THEOREMS. Links on the ports and unresolved port records agree at every step (R84, R90,
R103, R115). -/

namespace Sys2Proof.Machine

/-! ### What sound ports lack -/

section
variable {x : Port}

/-- A port has no exchange open while an answer is pending. -/
theorem Port.Sound.pending_of_exchange (h : x.Sound) (he : x.exchange ≠ none) :
    x.pendingAnswer = none := by
  cases hp : x.phase with
  | clearing d => exact (Port.noExchange_iff.1 ((Port.fits_clearing hp).1 h.fits).1).2.1
  | ready => exact (Port.noExchange_iff.1 ((Port.fits_ready hp).1 h.fits).1).2.1
  | sending => exact absurd ((Port.fits_sending hp).1 h.fits).1 he
  | waiting => exact ((Port.fits_waiting hp).1 h.fits).2.1
  | watching => exact ((Port.fits_watching hp).1 h.fits).2.1
  | down c => exact (Port.noExchange_iff.1 ((Port.fits_down hp).1 h.fits).1).2.1

theorem Port.Sound.pending_of_piece (h : x.Sound) (hp : x.phase = .sending) {wire : List Byte}
    (ht : x.tx = .piece wire) : x.pendingAnswer = none := by
  obtain ⟨-, -, hlink, -⟩ := (Port.fits_sending hp).1 h.fits
  rcases Port.sendingLink_iff.1 hlink with ⟨_, _, _, _, ha⟩ | ⟨hpass, _⟩
  · exact ha
  · rw [ht] at hpass
    cases hpass

end

/-! ### Moves of one port -/

section
variable {pends : Tag → PartState → Prop} {x y : Port}

theorem Port.Linked.move (h : x.Linked pends) (hx : x.Sound) {wanted : Bool} (hm : x.Move wanted y) :
    y.Linked pends := by
  cases hm with
  | received f rx c _ hf => exact h.received hf rfl rfl rfl
  | sent wire head rest hp ht hq => exact (h.sent hq (hx.pending_of_piece hp ht)).judge _
  | watchOpened hp =>
    obtain ⟨he, ha, -⟩ := Port.noExchange_iff.1 ((Port.fits_ready hp).1 hx.fits).1
    exact h.watchOpened ha he
  | cleared =>
    refine Port.Linked.judge ?_ wanted
    exact h.congr rfl rfl rfl
  | _ => exact h.congr rfl rfl rfl

/-- R99, R105, R107: a port that was flushed, once its notices are taken. -/
theorem Port.Linked.flushed {pends' : Tag → PartState → Prop} (h : x.Linked pends) (hx : x.Sound)
    {why : FlushCause} (hwhy : why ≠ .hubClear) (hσ : ∀ t σ, pends t σ → σ = .queued ∨ σ = .awaiting)
    (hp : ∀ t σ, pends' t σ ↔ pends t σ ∧ t ∉ (x.notices why).map Notice.tag)
    (hq : y.queue = []) (ha : y.pendingAnswer = none) (he : y.exchange = none) : y.Linked pends' := by
  refine Port.linked_of_empty hq ha he fun t σ ht => ?_
  obtain ⟨hpend, hnot⟩ := (hp t σ).1 ht
  exact hnot (h.noticed hx.pending_of_exchange hwhy (hσ t σ hpend) hpend)

end

theorem State.Pends.unresolved {s : State} {p : PortId} {t : Tag} {σ : PartState} (h : s.Pends p t σ) :
    σ = .queued ∨ σ = .awaiting := by
  obtain ⟨-, -, -, hσ, -⟩ := h
  exact hσ

/-! ### One port and the others -/

/-- Links of every port agree with the parts that name it. -/
def State.Linked (s : State) : Prop := ∀ p, (s.port p).Linked (s.Pends p)

section
variable {s u : State}

/-- Links stay good while neither ports nor records change. -/
theorem State.Linked.of_same (h : s.Linked) (hp : ∀ q, u.port q = s.port q)
    (hr : ∀ k, u.record k = s.record k) : u.Linked := fun q => by
  rw [hp]
  exact (h q).mono fun k σ => State.pends_congr (hr k) q σ

/-- Port `p` changes with its own parts; the others are left alone. -/
theorem State.Linked.of_port (h : s.Linked) {p : PortId} (hp : (u.port p).Linked (u.Pends p))
    (hq : ∀ q, q ≠ p → u.port q = s.port q)
    (hr : ∀ q, q ≠ p → ∀ k σ, u.Pends q k σ ↔ s.Pends q k σ) : u.Linked := by
  intro q
  by_cases hqp : q = p
  · subst hqp
    exact hp
  · rw [hq q hqp]
    exact (h q).mono (hr q hqp)

theorem State.Linked.setPort (h : s.Linked) {p : PortId} {x : Port} (hx : x.Linked (s.Pends p)) :
    (s.setPort p x).Linked := by
  refine h.of_port (p := p) ?_ (fun q hq => s.setPort_port_ne _ hq) fun _ _ _ _ => Iff.rfl
  rw [State.setPort_port_same]
  exact hx

/-- A port is flushed and its notices are taken. -/
theorem State.Linked.flush (h : s.Linked) {p : PortId} (hx : (s.port p).Sound) {why : FlushCause}
    (hwhy : why ≠ .hubClear) {y : Port} (hq : y.queue = []) (ha : y.pendingAnswer = none)
    (he : y.exchange = none) : ((s.setPort p y).handNotices p ((s.port p).notices why)).Linked := by
  have hpends (q : PortId) (k : Tag) (σ : PartState) :=
    (s.setPort p y).handNotices_pends k p q σ ((s.port p).notices why)
  refine h.of_port (p := p) ?_ (fun q hqp => ?_) fun q hqp k σ => ?_
  · rw [State.handNotices_port, State.setPort_port_same]
    refine (h p).flushed hx hwhy (fun _ _ => State.Pends.unresolved) (fun t σ => ?_) hq ha he
    rw [hpends]
    simp only [and_true]
    rfl
  · rw [State.handNotices_port, State.setPort_port_ne _ _ hqp]
  · rw [hpends]
    simp only [hqp, and_false, not_false_eq_true, and_true]
    rfl

theorem Port.failureDest_flushCause (x : Port) : x.failureDest.flushCause ≠ .hubClear := by
  unfold Destination.flushCause
  split <;> simp

/-- R99: a failure flushes the port. -/
theorem State.Linked.failPort (h : s.Linked) {p : PortId} (hx : (s.port p).Sound) (f : Port → Port) :
    (s.failPort p f).Linked :=
  h.flush hx (s.port p).failureDest_flushCause
    (Port.enterClearing_keeps _ _).2 (by rw [Port.failed, Port.enterClearing_eq]; rfl)
    (by rw [Port.failed, Port.enterClearing_eq]; rfl)

theorem State.Linked.stopPort (h : s.Linked) {p : PortId} (hx : (s.port p).Sound) :
    (s.stopPort p).Linked := by
  obtain ⟨-, hq, he, ha, -⟩ := (s.port p).flushed.clearToward_keeps (.down .stopped)
  simp only [State.stopPort]
  split
  · exact h.flush hx (by simp) hq ha he
  · exact h.setPort ((h p).congr rfl rfl rfl)

theorem State.Linked.restartPort (h : s.Linked) {p : PortId} (hx : (s.port p).Sound) :
    (s.restartPort p).Linked := by
  simp only [State.restartPort]
  split
  · obtain ⟨-, hq, he, ha, -⟩ := (s.port p).flushed.clearToward_keeps .ready
    exact h.flush hx (by simp) hq ha he
  · obtain ⟨-, hq, he, ha, -⟩ := (s.port p).clearToward_keeps .ready
    exact h.setPort ((h p).congr hq ha he)

/-! ### Exchanges -/

/-- R90, R115: the exchange of the pending answer opens. -/
theorem State.Linked.openExchange (h : s.Linked) {p : PortId} (hx : (s.port p).Sound)
    {a : PendingAnswer} (hp : (s.port p).phase = .sending) (ht : (s.port p).tx = .passAnswer)
    (ha : (s.port p).pendingAnswer = some a) : (s.openExchange p a).Linked := by
  obtain ⟨he, -, hlink, -⟩ := (Port.fits_sending hp).1 hx.fits
  have hanswers : a.answers ≠ .watch := by
    rcases Port.sendingLink_iff.1 hlink with ⟨_, _, hpiece, _⟩ | ⟨-, b, hb, hanswers⟩
    · rw [ht] at hpiece
      cases hpiece
    · cases ha.symm.trans hb
      exact hanswers
  have hpends (q : PortId) (k : Tag) (σ : PartState) : (s.openExchange p a).Pends q k σ
      ↔ if a.link = some k ∧ q = p then σ = .awaiting ∧ ∃ τ, s.Pends q k τ else s.Pends q k σ := by
    simp only [State.openExchange]
    cases hl : a.link with
    | none => simp only [reduceCtorEq, false_and, if_false]; rfl
    | some t =>
      refine (State.partAwaits_pends _ t k p q σ).trans ?_
      simp only [Option.some.injEq, eq_comm (a := k)]
      rfl
  refine h.of_port (p := p) ?_ (fun q hqp => ?_) fun q hqp k σ => ?_
  · rw [State.openExchange_port, State.setPort_port_same]
    refine (h p).exchangeOpened ha hanswers he fun t σ => ?_
    rw [hpends]
    simp only [and_true]
  · rw [State.openExchange_port, State.setPort_port_ne _ _ hqp]
  · rw [hpends, if_neg (by simp [hqp])]

/-- R95, R116: the exchange ends with its result. -/
theorem State.Linked.endExchange (h : s.Linked) (hr : s.recordsSound) {p : PortId}
    (hx : (s.port p).Sound) {e : Exchange} (he : (s.port p).exchange = some e) :
    (((s.setPort p (s.port p).endExchange).handResult p e).judgePort p).Linked := by
  have hpends (q : PortId) (k : Tag) (σ : PartState) :=
    (s.setPort p (s.port p).endExchange).handResult_pends k p q σ e
  have hended : ((s.setPort p (s.port p).endExchange).handResult p e).Linked := by
    refine h.of_port (p := p) ?_ (fun q hqp => ?_) fun q hqp k σ => ?_
    · rw [State.handResult_port, State.setPort_port_same]
      refine (h p).exchangeEnded he (hx.pending_of_exchange (by simp [he])) (fun t hq ha => ?_) fun t σ => ?_
      · cases hr.pends_unique hq ha
      · rw [hpends]
        simp only [and_true]
        rfl
    · rw [State.handResult_port, State.setPort_port_ne _ _ hqp]
    · rw [hpends]
      simp only [hqp, and_false, not_false_eq_true, and_true]
      rfl
  exact hended.setPort ((hended p).judge _)

/-! ### Admission -/

theorem StreamTable.lookup_valid {x : StreamTable} (h : ∀ i : Fin 31, x.active[i].valid = true)
    (stream : Nat) : (x.lookup stream).valid = true := by
  by_cases hi : stream < 31
  · have := x.lookup_eq ⟨stream, hi⟩
    simp only at this
    rw [this]
    exact h ⟨stream, hi⟩
  · simp [StreamTable.lookup, hi, StreamEntry.valid]

/-- R59 to R61, R114: an admission links the new pieces to the new record. -/
theorem State.Linked.admitPacket (h : s.Linked) (htable : s.tableSound) {kind : StreamKind}
    {hd : Header} {payload : List Byte} {members : PortSet} {out : Nat} {fields : EntryClass}
    (hl : s.table.lookup hd.stream = .on members out fields)
    (hh : headRefusal kind hd payload members fields (s.tagHeld hd.tag) = none) :
    (s.admitPacket hd (kind.tagged hd) members
      (s.sliceFor kind hd payload members out fields)).Linked := by
  have hvalid : fields.valid members = true := by
    have := StreamTable.lookup_valid (fun i => (htable i).1) hd.stream
    rw [hl] at this
    simp only [StreamEntry.valid, Bool.and_eq_true] at this
    exact this.2
  have hports := s.admitPacket_port_cases hd (kind.tagged hd) members _
    (s.sliceFor_nodup kind hd payload members out fields)
  have hrecord := s.admitPacket_record hd (kind.tagged hd) members
    (s.sliceFor kind hd payload members out fields)
  intro q
  cases hk : kind.tagged hd with
  | none =>
    rw [hk] at hports hrecord
    have hpends (k : Tag) (σ : PartState) := State.pends_congr (hrecord k) q σ
    rcases hports q with ⟨x, hx, rfl, hq⟩ | ⟨-, hq⟩ <;> rw [hq]
    · exact (((h x.port).joined (slicePacket_link hx)).judge _).mono hpends
    · exact (h q).mono hpends
  | some k =>
    rw [hk] at hports hrecord
    have hfree : s.record hd.tag = none := by
      simpa [State.tagHeld] using tag_free_of_headRefusal hh hk
    have hpends (j : Tag) (σ : PartState) : (s.admitPacket hd (some k) members
        (s.sliceFor kind hd payload members out fields)).Pends q j σ
          ↔ if j = hd.tag then σ = .queued ∧ PortSet.has members q = true
              ∧ q ∈ (s.sliceFor kind hd payload members out fields).map PortPieces.port
            else s.Pends q j σ := by
      have hj := hrecord j
      simp only at hj
      unfold State.Pends
      rw [hj]
      split
      · rw [← newTransaction_pends (kind := k) (stream := hd.stream) (deadline := s.txns.newDeadline)]
        exact ⟨fun ⟨x, hx, _, hp⟩ => Option.some.inj hx ▸ hp, fun hp => ⟨_, rfl, rfl, hp⟩⟩
      · rfl
    rcases hports q with ⟨x, hx, rfl, hq⟩ | ⟨hnot, hq⟩ <;> rw [hq]
    · obtain ⟨hlinks, hlast, hreq⟩ := (slicePacket_request hvalid hk hx).linked
      refine Port.Linked.judge (Port.Linked.admitted (h x.port) (t := hd.tag)
        (State.not_pends_of_free hfree x.port) hlinks hlast hreq fun j σ => ?_) _
      rw [hpends]
      simp only [(s.sliceFor_live kind hd payload members out fields hx).1,
        List.mem_map_of_mem (f := PortPieces.port) hx, and_true]
    · refine (h q).mono fun j σ => ?_
      rw [hpends]
      split
      next hj =>
        subst hj
        have hnone : q ∉ (s.sliceFor kind hd payload members out fields).map PortPieces.port := by
          rintro hmem
          obtain ⟨x, hx, hxq⟩ := List.mem_map.1 hmem
          exact hnot x hx hxq
        simp only [hnone, and_false, false_iff]
        exact State.not_pends_of_free hfree q σ
      next => rfl

/-! ### A deadline -/

/-- R112: a record has at most one part of a port. -/
theorem parts_of_port {rs : List PortRecord} (h : partsAscend rs = true) (q : PortId) :
    rs.filter (fun r => r.port == q) = []
      ∨ ∃ r ∈ rs, r.port = q ∧ rs.filter (fun r => r.port == q) = [r] := by
  have hpair := (partsAscend_iff rs).1 h
  induction rs with
  | nil => exact .inl rfl
  | cons r rs ih =>
    rw [List.map_cons, List.pairwise_cons] at hpair
    by_cases hr : r.port = q
    · refine .inr ⟨r, by simp, hr, ?_⟩
      have hnone : rs.filter (fun r => r.port == q) = [] := by
        refine List.filter_eq_nil_iff.2 fun z hz => ?_
        have hlt := hpair.1 z.port (List.mem_map_of_mem hz)
        rw [hr] at hlt
        simpa using (ne_of_lt hlt).symm
      simp [hr, hnone]
    · have ih := ih ((partsAscend_iff rs).2 hpair.2) hpair.2
      have hskip : (r :: rs).filter (fun r => r.port == q) = rs.filter fun r => r.port == q := by
        simp [hr]
      rw [hskip]
      exact ih.imp id fun ⟨z, hz, hrest⟩ => ⟨z, List.mem_cons_of_mem _ hz, hrest⟩

/-- R121: an expiry takes the links of its transaction away. -/
theorem State.Linked.expireRecord (h : s.Linked) (hr : s.recordsSound) {t : Tag} {x : Transaction}
    (hx : s.record t = some x) (ho : x.state = .opened) : (s.expireRecord t x).Linked := by
  intro q
  have hpends (k : Tag) (σ : PartState) := s.expireRecord_pends t k q σ x
  rw [State.expireRecord, State.complete_port, State.expirePorts_port]
  have hascend := ((State.recordsSound_iff.1 hr).1 t x hx).ascend
  have hunique {σ τ : PartState} := hr.pends_unique (p := q) (t := t) (σ := σ) (τ := τ)
  rcases parts_of_port hascend q with hnil | ⟨r, hmem, hrq, hone⟩
  · rw [hnil]
    refine (h q).spared (fun σ hσ => ?_) hpends
    obtain ⟨-, -, r, hmem, hrq, -⟩ := hσ.of_record hx
    have := List.filter_eq_nil_iff.1 hnil r hmem
    simp [hrq] at this
  · rw [hone]
    have hpart (hσ : r.state = .queued ∨ r.state = .awaiting) : s.Pends q t r.state :=
      ⟨x, hx, ho, hσ, r, hmem, hrq, rfl⟩
    change ((s.port q).expire t r).Linked _
    unfold Port.expire
    split
    next hstate =>
      rw [hstate] at hpart
      exact (h q).withdraw (fun ha => by cases hunique (hpart (.inl rfl)) ha) hpends
    next hstate =>
      rw [hstate] at hpart
      exact (h q).orphaned (fun hq => by cases hunique hq (hpart (.inr rfl))) (hpart (.inr rfl)) hpends
    next o hstate =>
      refine (h q).spared (fun σ hσ => ?_) hpends
      have hσ' := hσ.unresolved
      obtain ⟨-, -, z, hz, hzq, rfl⟩ := hσ.of_record hx
      have hzr : z ∈ x.parts.filter fun r => r.port == q := List.mem_filter.2 ⟨hz, by simp [hzq]⟩
      rw [hone, List.mem_singleton] at hzr
      rw [hzr, hstate] at hσ'
      simp at hσ'

/-! ### Every move -/

theorem State.LinkMove.keeps_linked {t : State} (hm : s.LinkMove t) (hports : ∀ p, (s.port p).Sound)
    (hr : s.recordsSound) (htable : s.tableSound) (h : s.Linked) : t.Linked := by
  cases hm with
  | ported p x hx => exact h.setPort ((h p).move (hports p) hx)
  | exchangeOpened p a hp ht ha => exact h.openExchange (hports p) hp ht ha
  | exchangeEnded p e hp he => exact h.endExchange hr (hports p) he
  | timedOut p => exact h.failPort (hports p) _
  | collided p => exact h.failPort (hports p) _
  | admitted kind hd payload members out fields hl hh => exact h.admitPacket htable hl hh
  | expired t x hx ho => exact h.expireRecord hr hx ho

theorem State.linked_of_free (hr : ∀ k, u.record k = none)
    (hp : ∀ q, (u.port q).queue = [] ∧ (u.port q).pendingAnswer = none ∧ (u.port q).exchange = none) :
    u.Linked := fun q =>
  Port.linked_of_empty (hp q).1 (hp q).2.1 (hp q).2.2 fun k σ => State.not_pends_of_free (hr k) q σ

/-- R110: a hub clear leaves nothing in a port. -/
theorem Port.Sound.hubCleared_empty {x : Port} (h : x.Sound) :
    x.hubCleared.queue = [] ∧ x.hubCleared.pendingAnswer = none ∧ x.hubCleared.exchange = none := by
  unfold Port.hubCleared
  split
  · obtain ⟨-, hq, he, ha, -⟩ := x.flushed.clearToward_keeps .ready
    exact ⟨hq, ha, he⟩
  next hl =>
    obtain ⟨hn, he, -⟩ := h.of_not_live (by simpa using hl)
    obtain ⟨hexchange, hpending, -⟩ := Port.noExchange_iff.1 hn
    exact ⟨(Port.emptied_iff.1 he).1, hpending, hexchange⟩

/-- R127: the record that a REPORT frees is DONE. -/
theorem State.Linked.entrySent (h : s.Linked) (hr : s.recordsSound) {e : Entry} {rest : List Entry}
    (he : s.ret.entries = e :: rest) (x : Turn) : (s.entrySent x e rest).Linked := by
  intro q
  have hport : (s.entrySent x e rest).port q = s.port q :=
    State.port_eq_of_ports (s := s.withRet _) (State.releaseFor_keeps _ e).2.1 q
  rw [hport]
  refine (h q).mono fun k σ => ?_
  have hrecord := s.entrySent_record x e rest k
  split at hrecord
  next hslot =>
    refine iff_of_false (State.not_pends_of_free hrecord q σ) ?_
    rintro ⟨y, hy, ho, -⟩
    obtain ⟨-, -, hreport⟩ := ((State.recordsSound_iff.1 hr).1 k y hy).opened ho
    rw [ReturnQueue.inSlot_eq, he, List.countP_cons_of_pos (by simp [hslot])] at hreport
    omega
  next => exact State.pends_congr hrecord q σ

theorem State.Linked.deferredDone (h : s.Linked) (b : Byte) : (s.deferredDone b).Linked :=
  h.of_same (s.deferredDone_port b) fun k => congrArg (fun x => x.records[k]) (s.deferredDone_keeps b).2.2.2.1

theorem State.Move.keeps_linked {t : State} (hm : s.Move t) (hports : ∀ p, (s.port p).Sound)
    (hr : s.recordsSound) (htable : s.tableSound) (h : s.Linked) : t.Linked := by
  cases hm with
  | reset =>
    refine State.linked_of_free (State.replicate_record rfl) fun q => ?_
    have : (State.reset.withPending s.pending).port q = .reset := State.reset_port q
    rw [this]
    exact ⟨rfl, rfl, rfl⟩
  | hubCleared =>
    refine State.linked_of_free (State.replicate_record rfl) fun q => ?_
    rw [State.hubCleared_port]
    exact (hports q).hubCleared_empty
  | entrySent x e rest hd hx hp he => exact h.entrySent hr he x
  | regrouped a mode =>
    intro q
    have hpends (k : Tag) (σ : PartState) : ((s.setGroup a.group
        { (s.group a.group).configured a with mode := mode }).tellWatches s).Pends q k σ ↔ s.Pends q k σ := by
      obtain ⟨_, hu⟩ := State.tellWatches_keeps
        (s.setGroup a.group { (s.group a.group).configured a with mode := mode }) s
      rw [hu]
      rfl
    refine Port.Linked.mono ?_ hpends
    rw [State.tellWatches_port]
    split
    · exact h q
    · exact (h q).judge _
  | stopHeld c rest p => exact State.Linked.stopPort (s := s.held c rest) h (hports p)
  | restartHeld c rest p => exact State.Linked.restartPort (s := s.held c rest) h (hports p)
  | restartAnswered p b =>
    refine State.Linked.deferredDone (h.setPort ?_) b
    exact (h p).congr rfl rfl rfl
  | wentDown p c hp ht ho =>
    have hset := h.setPort (p := p)
      (x := { s.port p with phase := .down c, tx := .idle, owed := .none }) ((h p).congr rfl rfl rfl)
    exact hset.of_same (State.goDown_port ho) fun k =>
      congrArg (fun x => x.records[k]) (s.goDown_keeps p c).2.2.1
  | linked hl => exact hl.keeps_linked hports hr htable h
  | _ => exact h

theorem Transaction.tick_pends (x : Transaction) (p : PortId) (σ : PartState) :
    x.tick.Pends p σ ↔ x.Pends p σ := Iff.rfl

theorem State.Linked.tick (h : s.Linked) : s.tick.Linked := by
  intro q
  rw [State.tick_port]
  have hx : (s.port q).tick.Linked (s.Pends q) := (h q).congr rfl rfl rfl
  refine hx.mono fun k σ => ?_
  unfold State.Pends
  rw [State.tick_record]
  cases s.record k with
  | none => simp
  | some x =>
    simp only [Option.map_some, Option.some.injEq, exists_eq_left', Transaction.tick_pends]
    rfl

end

/-- Settles O57: what a move does to the links of a port, it does to the parts that name the port. -/
theorem linksAndPortRecordsAgree : Obligations.LinksAndPortRecordsAgree := by
  intro s t hports hrecords htable hlinks hstep
  have hall := step_keeps
    (P := fun u => u.portsSound ∧ u.recordsSound ∧ u.tableSound ∧ u.Linked)
    (fun _ _ ⟨hp, hr, ht, hl⟩ =>
      ⟨State.tick_portsSound hp, State.tick_recordsSound hr, ht, hl.tick⟩)
    (fun _ _ hu => hu)
    (fun _ _ hm ⟨hp, hr, ht, hl⟩ => ⟨hm.keeps_portsSound hp, hm.keeps_recordsSound hr,
      hm.keeps_tableSound ht, hm.keeps_linked (State.portsSound_iff.1 hp) hr ht hl⟩)
    ⟨hports, hrecords, htable, State.linksSound_iff.1 hlinks⟩ hstep
  exact State.linksSound_iff.2 hall.2.2.2

end Sys2Proof.Machine

/-! THEOREMS. The queue of commands, reset, the counts, and the microsecond (R14, R46, R81, R130, R133,
R148, R161, R175). -/

namespace Sys2Proof.Machine

/-- Settles O1: a step looks at the front of the queue. -/
theorem stepRunsTheFrontCommand : Obligations.StepRunsTheFrontCommand := by
  intro c s rest h
  simp only [step, h]
  rfl

theorem State.reset_group (g : GroupId) : State.reset.group g = .reset := by
  match g with
  | 0 | 1 | 2 | 3 => rfl

/-- Settles O4: a reset writes every block, and keeps the queue of commands only. -/
theorem resetLeavesEveryBlockAtItsResetValues : Obligations.ResetLeavesEveryBlockAtItsResetValues := by
  intro s
  refine ⟨State.reset.withPending s.pending, rfl, rfl, fun i => ?banks, rfl, State.reset_port,
    State.replicate_record rfl, rfl, rfl, fun g => ?group, rfl, rfl, fun i => ?stream, fun i => ?refusal⟩
  case banks => exact ⟨Vector.getElem_replicate i.isLt, Vector.getElem_replicate i.isLt⟩
  case group => exact State.reset_group g
  case stream => exact Vector.getElem_replicate i.isLt
  case refusal => exact Vector.getElem_replicate i.isLt

/-- Settles O58: after a reset no port holds anything, no record is held, and nothing waits. -/
theorem resetMeetsTheInvariants : Obligations.ResetMeetsTheInvariants := by
  have hrecord : ∀ k, State.reset.record k = none := State.replicate_record rfl
  refine ⟨State.portsSound_iff.2 fun p => ?ports, fun p => ?queue, fun p => ?served,
    StreamTable.reset_valid, ⟨fun g => ?group, fun g k _ => ?apart⟩,
    State.slotsSound_iff.2 ⟨Nat.zero_le _, rfl, Nat.zero_le _⟩, ⟨rfl, by decide⟩,
    State.recordsSound_of_empty hrecord rfl,
    State.linksSound_iff.2 (State.linked_of_free hrecord fun q => ?links),
    State.noticesOwed_iff.2 ⟨fun p hp => ?owed, fun h => nomatch h⟩⟩
  case ports => exact State.reset_port p ▸ Port.reset_sound
  case queue => rw [State.reset_port]; decide
  case served => rw [State.reset_port]; exact fun h => nomatch h
  case group => rw [State.reset_group]; decide
  case apart => rw [State.reset_group, State.reset_group]; decide
  case links => rw [State.reset_port]; exact ⟨rfl, rfl, rfl⟩
  case owed => rw [State.reset_port] at hp; exact absurd rfl hp

/-- Settles O60: the largest count is the word of 32 ones. -/
theorem aCountGoesUpByOneAndStops : Obligations.ACountGoesUpByOneAndStops := by
  intro x
  have hones : (BitVec.allOnes 32).toNat = 4294967295 := rfl
  unfold bump
  by_cases hx : x = BitVec.allOnes 32
  · rw [if_pos hx, hx, hones, if_pos rfl]
  · have hne : x.toNat ≠ 4294967295 := fun h => hx (BitVec.eq_of_toNat_eq (h.trans hones.symm))
    have hlt := x.isLt
    rw [if_neg hx, if_neg hne, BitVec.toNat_add]
    exact Nat.mod_eq_of_lt (show x.toNat + 1 < 2 ^ 32 by omega)

/-! ### A microsecond -/

theorem mem_allGroups (g : GroupId) : g ∈ allGroups := by
  match g with
  | 0 | 1 | 2 | 3 => decide

theorem mem_allTags (t : Tag) : t ∈ allTags := by
  revert t
  decide

theorem lastTick_iff {timer : Option Nat} : lastTick timer = true ↔ timer = some 1 := by
  simp [lastTick]

/-- The expiries that fall due, one family of timers after the other. -/
theorem State.mem_dueExpiries (s : State) (c : Instr) : c ∈ s.dueExpiries
    ↔ (∃ p, c = .seizeComplete p ∧ (s.port p).seize = some 1)
      ∨ (∃ p, c = .answerTimerExpiry p ∧ (s.port p).answerTimer = some 1)
      ∨ (∃ g, c = .syncWindowExpiry g ∧ (s.group g).timer = some 1)
      ∨ ∃ k, c = .deadlineExpiry k ∧ ∃ x, s.record k = some x ∧ x.deadline = some 1 := by
  simp only [State.dueExpiries, List.mem_append, List.mem_map, List.mem_filter, mem_allPorts,
    mem_allGroups, mem_allTags, true_and, lastTick_iff, Option.any_eq_true, or_assoc, eq_comm (b := c)]
  simp only [and_comm]

/-- Settles O2: an idle step is a microsecond, which counts each family of timers down by a map. -/
theorem anIdleStepIsOneMicrosecond : Obligations.AnIdleStepIsOneMicrosecond := by
  intro s hidle
  have hstep : step s = .next s.tick := by simp only [step, hidle]
  have hpending : s.tick.pending = s.dueExpiries := by
    change s.pending ++ s.dueExpiries = _
    rw [hidle, List.nil_append]
  exact ⟨s.tick, hstep, s.tick_port, s.tick_group, s.tick_record,
    fun c => hpending ▸ s.mem_dueExpiries c, rfl, rfl, rfl, rfl, rfl, rfl, rfl⟩

end Sys2Proof.Machine

/-! THEOREMS. Headers, packets and wrong tokens of the host (R5, R6, R11, R16 to R18, R21). -/

namespace Sys2Proof.Machine

/-! ### The rows of the host's packets and tokens -/

theorem exec_headerArrival (header : List Byte) (s : State) :
    exec (.headerArrival header) s = .next (s.headerArrived header) := rfl

theorem exec_packetArrival (payload : List Byte) (check : Half) (s : State) :
    exec (.packetArrival payload check) s = .next (s.packetArrived payload check) := rfl

/-- A receiver that is IN-BURST stays so. -/
theorem State.setRx_same {s : State} {rx : RxState} (hr : s.upstream.rx = rx) :
    s.setRx rx = s.withUpstream { s.upstream with inProgress := none } := by
  subst hr
  rfl

theorem State.headerArrived_of_desync {s : State} (hr : s.upstream.rx = .desync) (header : List Byte) :
    s.headerArrived header = s := by
  unfold State.headerArrived
  split
  next hburst _ => rw [hr] at hburst; cases hburst
  next => rfl

theorem State.packetArrived_of_desync {s : State} (hr : s.upstream.rx = .desync) (payload : List Byte)
    (check : Half) : s.packetArrived payload check = s := by
  unfold State.packetArrived
  split
  next hburst _ => rw [hr] at hburst; cases hburst
  next => rfl

/-- R16: a bad header leaves the receiver in DESYNC, with nothing in progress. -/
theorem State.badHeader_eq {s : State} (hi : s.upstream.inProgress = none) :
    s.badHeader = s.withUpstream { s.upstream with
      rx := .desync
      counts := { s.upstream.counts with
        headerErrors := bump s.upstream.counts.headerErrors
        desyncBursts := bump s.upstream.counts.desyncBursts } } := by
  unfold State.badHeader State.setRx
  rw [← hi]
  rfl

/-- Settles O7: in a burst with no packet in progress the judgement of the header decides; DESYNC takes
neither a header nor a payload. -/
theorem aHeaderIsJudgedAtItsTenthByte : Obligations.AHeaderIsJudgedAtItsTenthByte := by
  intro s header payload check hfits hd
  refine ⟨fun hr hi hbad => ?bad, fun h hr hi hgood => ?good, fun hr => ?header, fun hr _ => ?payload⟩
  case bad =>
    rw [exec_headerArrival, s.headerArrived_of_fits hd hr hi hfits]
    simp only [State.takeHeader, hbad, State.badHeader_eq hi]
    rfl
  case good =>
    rw [exec_headerArrival, s.headerArrived_of_fits hd hr hi hfits]
    simp only [State.takeHeader, hgood, State.goodHeader]
    rfl
  case header => rw [exec_headerArrival, State.headerArrived_of_desync hr]
  case payload => rw [exec_packetArrival, State.packetArrived_of_desync hr]

/-- Settles O8: the check of the payload decides between the packet and the notice, which does not look at
the upstream port. -/
theorem aCompletePacketIsHandedOverOrNoticed : Obligations.ACompletePacketIsHandedOverOrNoticed := by
  intro s h payload check hawaits
  obtain ⟨hd, hr, hi, hlen, -⟩ := hawaits
  have harrived : s.packetArrived payload check = s.payloadArrived h payload check := by
    simp only [State.packetArrived, hd, hr, hi, hlen, if_true]
  rw [exec_packetArrival, harrived, State.payloadArrived, State.setRx_same hr]
  split
  · rfl
  · rw [State.badPayload, State.countUpstream, State.failedPayload_withUpstream,
      State.failedPayload_withUpstream]
    rfl

theorem State.onHostToken_of_not_resting {s : State} (hd : s.upstream.direction = .follower)
    (hr : s.upstream.rx ≠ .resting) (act : State → State) : s.onHostToken act = s.countTokenError := by
  cases h : s.upstream.rx with
  | resting => exact absurd h hr
  | inBurst => simp only [State.onHostToken, hd, h]
  | desync => simp only [State.onHostToken, hd, h]

theorem State.onHostToken_of_resting {s : State} (hd : s.upstream.direction = .follower)
    (hr : s.upstream.rx = .resting) (act : State → State) : s.onHostToken act = act s := by
  simp only [State.onHostToken, hd, hr]

/-- Settles O9: a token is taken in RESTING only, and there only PASS and CLEAR are the host's to send. -/
theorem wrongHostTokensAreOnlyCounted : Obligations.WrongHostTokensAreOnlyCounted := by
  intro s code hd
  refine ⟨fun hr => ?_, fun hr hpass hclear => ?_⟩
  · have htoken (act : State → State) := State.onHostToken_of_not_resting hd hr act
    exact ⟨congrArg _ (htoken _), congrArg _ (htoken _), congrArg _ (htoken _)⟩
  · have hnot : hostMaySend code = false := by
      simp only [hostMaySend, Bool.or_eq_false_iff, beq_eq_false_iff_ne]
      exact ⟨hpass, hclear⟩
    refine congrArg _ ((State.onHostToken_of_resting hd hr _).trans ?_)
    rw [hnot]
    rfl

end Sys2Proof.Machine

/-! THEOREMS. Failed-payload notices, refusals and management packets (R48, R51, R62, R63, R162). -/

namespace Sys2Proof.Machine

/-! ### The counts of the reasons -/

theorem State.countRefusal_refusals (s : State) (r q : RefusalReason) :
    (s.countRefusal r).ingress.refusals[q.place.val]?
      = if q = r then (s.ingress.refusals[q.place.val]?).map bump else s.ingress.refusals[q.place.val]? := by
  change (s.ingress.refusals.set r.place (bump s.ingress.refusals[r.place]))[q.place.val]? = _
  rw [Vector.getElem?_set]
  by_cases hq : q = r
  · subst hq
    simp
  · have hne : r.place.val ≠ q.place.val := fun h =>
      hq ((RefusalReason.place_inj r q).1 (Fin.ext h.symm))
    rw [if_neg hne, if_neg hq]

/-! ### Notices -/

section
variable {s : State} {h : Header}

theorem State.failedPayload_of_stream {kind : StreamKind} (hk : hostKind h.kind = some (.stream kind)) :
    s.failedPayload h = if h.stream = 31 then s else
      (kind.tagged h).elim s fun request => s.refuse h (some request) .payloadCheck := by
  simp only [State.failedPayload, hk, Config.managementStream]
  cases kind.tagged h <;> rfl

theorem State.failedPayload_of_mgmt (hk : hostKind h.kind = some .mgmt) :
    s.failedPayload h = if h.stream = 31 then s.ingressReply h.tag 0 .badCheck else s := by
  simp only [State.failedPayload, hk, Config.managementStream]

/-- R48: only a READ, a WRITE and a MGMT can be tagged requests or commands. -/
theorem State.failedPayload_of_other (hw : h.kind ≠ 0x20) (hr : h.kind ≠ 0x21) (hm : h.kind ≠ 0x30) :
    s.failedPayload h = s := by
  cases hk : hostKind h.kind with
  | none => simp only [State.failedPayload, hk]
  | some kind =>
    cases kind with
    | mgmt => exact absurd (hostKind_mgmt hk) hm
    | stream kind =>
      rw [State.failedPayload_of_stream hk]
      obtain ⟨-, rfl⟩ | ⟨-, rfl⟩ | ⟨he, -⟩ | ⟨he, -⟩ := hostKind_stream hk
      · exact ite_self s
      · exact ite_self s
      · exact absurd he hw
      · exact absurd he hr

theorem hostKind_write : hostKind 0x20 = some (.stream .write) := rfl
theorem hostKind_read : hostKind 0x21 = some (.stream .read) := rfl
theorem hostKind_of_mgmt : hostKind 0x30 = some .mgmt := rfl

end

/-- Settles O10: the kind that the header's byte names decides what a notice is, and a refusal writes one
place of each of two tables of counts. -/
theorem noticesAndRefusalsAreCountedAndReported : Obligations.NoticesAndRefusalsAreCountedAndReported := by
  refine ⟨fun s h => ⟨fun hk hs => ?read, fun hk ha hs => ?write, fun hk hs => ?mgmt,
    State.failedPayload_of_other, fun hk ha => ?posted, fun hk hs => ?stray, fun hk hs => ?off⟩,
    fun s h tagged r => ⟨fun n => ?stream, fun q => ?reason, ?report, ?frame⟩⟩
  case read =>
    rw [State.failedPayload_of_stream (hk ▸ hostKind_read), if_neg (by omega)]
    rfl
  case write =>
    rw [State.failedPayload_of_stream (hk ▸ hostKind_write), if_neg (by omega)]
    simp only [StreamKind.tagged, ha, if_true, Option.elim]
  case mgmt =>
    rw [State.failedPayload_of_mgmt (hk ▸ hostKind_of_mgmt), if_pos hs, State.ingressReply,
      ReturnQueue.request_eq_asked]
    rfl
  case posted =>
    rw [State.failedPayload_of_stream (hk ▸ hostKind_write)]
    simp only [StreamKind.tagged, ha, Bool.false_eq_true, if_false, Option.elim, ite_self]
  case stray =>
    rcases hk with hk | hk
    · rw [State.failedPayload_of_stream (hk ▸ hostKind_write), if_pos hs]
    · rw [State.failedPayload_of_stream (hk ▸ hostKind_read), if_pos hs]
  case off => rw [State.failedPayload_of_mgmt (hk ▸ hostKind_of_mgmt), if_neg hs]
  case stream =>
    rw [State.refuse_eq]
    exact s.countStream_streamCounts h.stream n StreamCounts.refuse
  case reason =>
    rw [State.refuse_eq]
    have hplace := (s.countStream h.stream StreamCounts.refuse).countRefusal_refusals r q
    cases q <;> exact hplace
  case report =>
    rw [State.refuse_eq]
    cases tagged with
    | none => rfl
    | some kind => cases kind <;> cases r <;> rfl
  case frame =>
    rw [State.refuse_eq]
    rfl

/-! ### Management packets -/

/-- Settles O12: the Length decides whether the packet is a command, and then the room for it. -/
theorem managementPacketsAreAcceptedOrDiscarded : Obligations.ManagementPacketsAreAcceptedOrDiscarded := by
  intro s h payload hk hs
  have htake : s.classify h payload = s.takeMgmt h payload := by
    rw [s.classify_of_mgmt payload (hk ▸ hostKind_of_mgmt), if_pos hs]
  have hoffer (hfits : 1 ≤ h.length ∧ h.length ≤ 64) :
      s.classify h payload = s.offerCommand { tag := h.tag, payload := payload } := by
    rw [htake]
    exact if_pos hfits
  refine ⟨fun hfits hfree hwait => ?accepted, fun hfits hfree hwait => ?overrun, fun hfits hfull => ?lost,
    fun hnot => ?wrong⟩
  case accepted =>
    rw [hoffer hfits, State.offerCommand, if_neg hfree, if_pos hwait]
    rfl
  case overrun =>
    rw [hoffer hfits, State.offerCommand, if_neg hfree, if_neg (Nat.not_lt.2 hwait)]
    rfl
  case lost =>
    rw [hoffer hfits, State.offerCommand, if_pos hfull]
    rfl
  case wrong =>
    have hreply : s.takeMgmt h payload = s.ingressReply h.tag (commandCode payload) .badArg := if_neg hnot
    rw [htake, hreply, State.ingressReply, ReturnQueue.request_eq_asked]
    rfl

end Sys2Proof.Machine

/-! THEOREMS. Classification and admission (R40, R42, R49, R52 to R61, R86). -/

namespace Sys2Proof.Machine

/-! ### Packets of the streams -/

section
variable {s : State} {h : Header} {kind : StreamKind} {id : Fin 31} {payload : List Byte}
  {members : PortSet} {out : Nat} {fields : EntryClass}

theorem State.classify_of_id (hk : hostKind h.kind = some (.stream kind)) (hid : h.stream = id.val) :
    s.classify h payload = s.classifyStream kind h payload := by
  rw [s.classify_of_stream payload hk, if_neg (by omega)]

theorem StreamTable.qualifies_iff {x : StreamTable} (hid : h.stream = id.val) :
    x.qualifies kind h = true ↔ kind = .frameStart ∧ h.length = 0 ∧ x.commit = .pendingFrame
      ∧ x.active[id].isPixel = true := by
  simp only [StreamTable.qualifies, hid, x.lookup_eq, Bool.and_eq_true, beq_iff_eq, and_assoc]

/-- A packet that takes no commit is judged under the active entry as it stands. -/
theorem State.classify_of_noCommit (hk : hostKind h.kind = some (.stream kind)) (hid : h.stream = id.val)
    (hno : s.takesNoCommit kind h id) : s.classify h payload
      = s.applyVerdict h (kind.tagged h) (s.verdict kind h payload s.table.active[id]) := by
  have hq : s.table.qualifies kind h = false := by
    rw [Bool.eq_false_iff, ne_eq, StreamTable.qualifies_iff hid]
    rintro ⟨hkind, hlen, hcommit, hpixel⟩
    rcases hno with h1 | h1 | h1 | h1
    · rw [hcommit] at h1; cases h1
    · exact h1 hkind
    · exact h1 hlen
    · rw [hpixel] at h1; cases h1
  have hlookup : s.table.lookup h.stream = s.table.active[id] := by rw [hid, StreamTable.lookup_eq]
  rw [State.classify_of_id hk hid, State.classifyStream, State.examineCommit_of_not hq, hlookup]

theorem headRefusal_of_first {held : Bool} {r : RefusalReason}
    (h1 : (headChecks kind h payload members fields held).find? Prod.fst = some (true, r)) :
    headRefusal kind h payload members fields held = some r := by
  rw [headRefusal_eq, h1]
  rfl

theorem headRefusal_of_pass {held : Bool}
    (h1 : ∀ c ∈ headChecks kind h payload members fields held, c.1 = false) :
    headRefusal kind h payload members fields held = none := by
  rw [headRefusal_eq, List.find?_eq_none.2 fun c hc => by simp [h1 c hc]]
  rfl

theorem State.verdict_of_refused {r : RefusalReason}
    (hr : headRefusal kind h payload members fields (s.tagHeld h.tag) = some r) :
    s.verdict kind h payload (.on members out fields) = .refused r := by
  simp only [State.verdict, hr]

theorem State.verdict_of_pass (hr : headRefusal kind h payload members fields (s.tagHeld h.tag) = none) :
    s.verdict kind h payload (.on members out fields)
      = s.roomVerdict kind members (s.sliceFor kind h payload members out fields) := by
  simp only [State.verdict, hr]

end

/-- R58: what a port within its limits has room for. -/
theorem Port.hasRoom_iff {x : Port} (hx : x.Fits) (ps : List Piece) : x.hasRoom ps = true
    ↔ x.queue.length + ps.length ≤ 64 ∧ queueBytes x.queue + queueBytes ps ≤ 8192 := by
  obtain ⟨hlen, hbytes⟩ := hx
  have hpieces : Config.pieceCapacity = 64 := rfl
  have hcapacity : Config.byteCapacity = 8192 := rfl
  have hfree : x.hasRoom ps = true ↔ ps.length ≤ x.freePieces ∧ queueBytes ps ≤ x.freeBytes := decide_eq_true_iff
  rw [hfree]
  unfold Port.freePieces Port.freeBytes
  omega

/-- Settles O13: the verdict is the first failing check, and then the room of the targets. -/
theorem theFirstFailingCheckGivesTheReason : Obligations.TheFirstFailingCheckGivesTheReason := by
  intro s h payload kind id hk hid hno
  have hclassify := State.classify_of_noCommit (payload := payload) hk hid hno
  refine ⟨fun hoff => ?off, fun members out fields hon => ⟨fun r hr => ?first, fun hpass =>
    ⟨fun hnil hline => ?unmapped, fun hnil hline => ?noPort, fun hfit hfull => ?noRoom⟩⟩⟩
  case off =>
    change s.classify h payload = _
    rw [hclassify, hoff]
    rfl
  case first =>
    change s.classify h payload = _
    rw [hclassify, hon, State.verdict_of_refused (headRefusal_of_first hr)]
    rfl
  all_goals
    have hverdict := State.verdict_of_pass (s := s) (out := out) (headRefusal_of_pass hpass)
    have hroom := s.roomVerdict_cases kind members (s.sliceFor kind h payload members out fields)
  case unmapped =>
    rw [hclassify, hon, hverdict, hnil, State.roomVerdict, hline]
    rfl
  case noPort =>
    change s.classify h payload = _
    rw [hclassify, hon, hverdict, hnil]
    have hrefused : s.roomVerdict kind members [] = .refused .noPort := if_neg hline
    rw [hrefused]
    rfl
  case noRoom =>
    change s.classify h payload = _
    obtain ⟨x, hx, hover⟩ := hfull
    have hnot : (s.port x.port).hasRoom x.pieces = false := by
      rw [Bool.eq_false_iff, ne_eq, Port.hasRoom_iff (hfit x.port)]
      omega
    rcases hroom with ⟨hnil, -⟩ | ⟨-, hall, -⟩ | ⟨-, -, hrefused⟩
    · rw [hnil] at hx; cases hx
    · rw [hall x hx] at hnot; cases hnot
    · rw [hclassify, hon, hverdict, hrefused]
      rfl

/-! ### Admission -/

/-- R60: the LIMIT among the pieces of a packet sets the entry's Return limit. -/
theorem slicePacket_limit {kind : StreamKind} {h : Header} {payload : List Byte} {out : Nat}
    {fields : EntryClass} {live : List PortId} {limitOf : PortId → Option Nat} {x : PortPieces}
    (hx : x ∈ slicePacket kind h payload out fields live limitOf) :
    limitSetBy x.pieces = none ∧ (x.pieces.any fun y => y.kind = .limit) = false
      ∨ (∃ size n pairs, fields = .command size n pairs ∧ limitSetBy x.pieces = some n)
        ∧ (x.pieces.any fun y => y.kind = .limit) = true := by
  have plain (h1 : ∀ y ∈ x.pieces, y.kind ≠ .limit) :
      limitSetBy x.pieces = none ∧ (x.pieces.any fun y => y.kind = .limit) = false := by
    refine ⟨if_neg ?_, ?_⟩
    · simpa using h1
    · simpa using h1
  unfold slicePacket at hx
  split at hx
  · obtain ⟨p, -, rfl⟩ := List.mem_map.1 hx
    exact .inl (plain (by simp [frameStartFor, plainPiece]))
  · obtain ⟨p, -, hp⟩ := List.mem_filterMap.1 hx
    unfold lineFor at hp
    split at hp
    · split at hp <;> cases hp
      exact .inl (plain (by simp [linePiece, plainPiece]))
    · cases hp
  · obtain ⟨p, -, rfl⟩ := List.mem_map.1 hx
    refine .inl (plain fun y hy => ?_)
    simp only [writePieces] at hy
    split at hy
    · simp only [List.mem_singleton] at hy
      simp [hy, writePiece]
    · obtain ⟨j, -, rfl⟩ := List.mem_map.1 hy
      simp [writePiece]
  next size n pairs =>
    obtain ⟨p, -, rfl⟩ := List.mem_map.1 hx
    simp only [readPieces]
    split
    · exact .inl ⟨rfl, rfl⟩
    · exact .inr ⟨⟨size, n, pairs, rfl, rfl⟩, rfl⟩
  · cases hx

@[simp] theorem linkPiece_kind (t : Tag) (y : Piece) : (linkPiece t y).kind = y.kind := by
  unfold linkPiece
  split <;> rfl

@[simp] theorem linkPiece_returnLimit (t : Tag) (y : Piece) :
    (linkPiece t y).returnLimit = y.returnLimit := by
  unfold linkPiece
  split <;> rfl

/-- A link does not change what a LIMIT sets. -/
theorem limitSetBy_linked (tagged : Option RequestKind) (t : Tag) (x : PortPieces) :
    limitSetBy (x.linked tagged t).pieces = limitSetBy x.pieces := by
  cases tagged with
  | none => rfl
  | some k =>
    simp only [limitSetBy, PortPieces.linked, List.any_map, Function.comp_def, linkPiece_kind,
      List.findSome?_map, linkPiece_returnLimit]

theorem linkPiece_eq (t : Tag) (y : Piece) :
    linkPiece t y = if y.kind ≠ .limit then { y with link := some t } else y := by
  unfold linkPiece
  split <;> simp [*]

/-- R61: the pieces of a tagged request are linked, but for a LIMIT. -/
theorem PortPieces.linked_pieces (tagged : Option RequestKind) (t : Tag) (x : PortPieces) :
    (x.linked tagged t).pieces
      = x.pieces.map fun y => if tagged.isSome ∧ y.kind ≠ .limit then { y with link := some t } else y := by
  cases tagged with
  | none => simp [PortPieces.linked]
  | some k =>
    simp only [PortPieces.linked, Option.isSome_some, true_and]
    exact List.map_congr_left fun y _ => linkPiece_eq t y

/-- R56, R69: a READ or a WRITE that forms pieces forms them for every live member. -/
theorem State.sliceFor_ports {s : State} {kind : StreamKind} {h : Header} {payload : List Byte}
    {members : PortSet} {out : Nat} {fields : EntryClass} {k : RequestKind} (hk : kind.tagged h = some k)
    (hne : s.sliceFor kind h payload members out fields ≠ []) :
    (s.sliceFor kind h payload members out fields).map PortPieces.port
      = (PortSet.toList members).filter fun p => (s.port p).live := by
  have all (f : PortId → PortPieces) (hf : ∀ p, (f p).port = p) (l : List PortId) :
      (l.map f).map PortPieces.port = l := by
    rw [List.map_map, show PortPieces.port ∘ f = id from funext hf, List.map_id]
  unfold State.sliceFor slicePacket at hne ⊢
  split at hne
  · cases hk
  · cases hk
  · exact all _ (fun _ => rfl) _
  · exact all _ (fun _ => rfl) _
  · exact absurd rfl hne

theorem State.admitPacket_ingress (s : State) (h : Header) (tagged : Option RequestKind)
    (members : PortSet) (targets : List PortPieces) :
    (s.admitPacket h tagged members targets).ingress
      = (s.countStream h.stream StreamCounts.accept).ingress := by
  obtain ⟨_, hjudge⟩ := (s.enqueued h tagged members targets).judgeAll_keeps (targets.map PortPieces.port)
  obtain ⟨_, happend⟩ := s.appendAll_keeps (targets.map (PortPieces.linked tagged h.tag))
  rw [State.admitPacket_eq, hjudge]
  change (State.countStream _ h.stream StreamCounts.accept).ingress = _
  rw [happend]
  cases tagged <;> rfl

/-- R86: a port that has taken pieces begins to send when it is READY and sends nothing. -/
theorem Port.judge_eq (y : Port) (wanted : Bool) :
    y.judge wanted = if y.phase = .ready ∧ y.tx = .idle then y.readyToSend wanted else y := by
  split
  next h => exact y.judge_of_ready wanted h.1 h.2
  next h => exact y.judge_of_busy wanted (not_and_or.1 h)

/-- Settles O14: a packet that passes is admitted; its targets and its record are those of the laws of
admission, and the rest is the frame of that operation. -/
theorem anAdmittedPacketReachesAllItsTargets : Obligations.AnAdmittedPacketReachesAllItsTargets := by
  intro s h payload kind id members out fields hk hid hno hon hpass targets hne hfit t tagged linked
  have hroom : ∀ x ∈ targets, (s.port x.port).hasRoom x.pieces = true := fun x hx => by
    obtain ⟨hlen, hbytes⟩ := hfit x hx
    exact (Port.hasRoom_iff ⟨(Nat.le_add_right _ _).trans hlen, (Nat.le_add_right _ _).trans hbytes⟩ _).2
      ⟨hlen, hbytes⟩
  have ht : t = s.admitPacket h tagged members targets := by
    have hverdict := State.verdict_of_pass (s := s) (out := out) (headRefusal_of_pass hpass)
    change s.classify h payload = _
    rw [State.classify_of_noCommit hk hid hno, hon, hverdict]
    rcases s.roomVerdict_cases kind members targets with ⟨hnil, -⟩ | ⟨-, -, hgrant⟩ | ⟨-, ⟨x, hx, hfull⟩, -⟩
    · exact absurd hnil hne
    · rw [hgrant]
      rfl
    · rw [hroom x hx] at hfull; cases hfull
  have hlocal := s.admitPacket_local h tagged members targets
  have hnodup := s.sliceFor_nodup kind h payload members out fields
  have hrecord := s.admitPacket_record h tagged members targets
  rw [ht]
  refine ⟨fun x hx => ?target, fun p hp => s.admitPacket_port_of_not h tagged members targets hp, ?record,
    fun k hkt => ?others, fun n => ?counts, hlocal.upstream, hlocal.table, s.admitPacket_ret h _ _ _,
    hlocal.sync, hlocal.agent, ?refusals, hlocal.deadlineMs, hlocal.pending⟩
  case target =>
    intro y
    have happend : (s.port x.port).append (x.linked tagged h.tag).pieces = y := by
      have hlimit : (limitSetBy (x.linked tagged h.tag).pieces).or (s.port x.port).limit = y.limit := by
        rw [limitSetBy_linked]
        rcases slicePacket_limit hx with ⟨hnone, hany⟩ | ⟨⟨size, n, pairs, hf, hsome⟩, hany⟩
        · rw [hnone]
          exact (if_neg (by simp [hany])).symm
        · rw [hsome]
          subst hf
          exact (if_pos hany).symm
      unfold Port.append
      rw [hlimit, PortPieces.linked_pieces]
    rw [s.admitPacket_port_of_mem h tagged members targets hnodup hx, happend, Port.judge_eq]
  case record =>
    rw [hrecord]
    cases htag : tagged with
    | none => rfl
    | some k =>
      simp only [if_true, Option.some.injEq]
      have hports : targets.map PortPieces.port
          = (PortSet.toList members).filter fun p => (s.port p).live := State.sliceFor_ports htag hne
      have hparts : (PortSet.toList members).map
            (fun p => newPart ((targets.map PortPieces.port).contains p) p)
          = (PortSet.toList members).map fun p =>
            { port := p, isPartial := false, errorWord := none
              state := if (s.port p).live then .queued else .resolved .down } := by
        refine List.map_congr_left fun p hp => ?_
        have hlive : (targets.map PortPieces.port).contains p = (s.port p).live := by
          rw [hports, Bool.eq_iff_iff, List.contains_iff_mem, List.mem_filter]
          exact and_iff_right hp
        rw [hlive]
        rfl
      unfold newTransaction
      rw [hparts]
      rfl
  case others =>
    rw [hrecord]
    cases tagged with
    | none => rfl
    | some k => exact if_neg hkt
  case counts =>
    have hcounts := s.countStream_streamCounts h.stream n StreamCounts.accept
    unfold State.streamCounts at hcounts ⊢
    rw [s.admitPacket_ingress]
    exact hcounts
  case refusals =>
    rw [s.admitPacket_ingress]
    rfl

/-! ### The pending commit -/

theorem State.applyVerdict_table (s : State) (h : Header) (tagged : Option RequestKind) (v : Verdict) :
    (s.applyVerdict h tagged v).table = s.table := by
  cases v with
  | refused r =>
    change (s.refuse h tagged r).table = s.table
    rw [State.refuse_eq]
    rfl
  | unmapped => rfl
  | granted members targets => exact (s.admitPacket_local h tagged members targets).table

theorem hostKind_frameStart : hostKind 0x10 = some (.stream .frameStart) := rfl

/-- Settles O15: the commit is taken before the lookup, and leaves nothing for the classification to take. -/
theorem aQualifyingFrameStartTakesThePendingCommit :
    Obligations.AQualifyingFrameStartTakesThePendingCommit := by
  intro s h id hk hid hcommit
  have hkind : hostKind h.kind = some (.stream .frameStart) := hk ▸ hostKind_frameStart
  refine ⟨fun members out size windows hon hlen => ?taken, fun hnot payload => ?stands⟩
  case taken =>
    have hq : s.table.qualifies .frameStart h = true :=
      (StreamTable.qualifies_iff hid).2 ⟨rfl, hlen, hcommit, by rw [hon]; rfl⟩
    have hdone : (((s.withTable s.table.commitStaged).requestsEvent [1, byte h.stream]).table.qualifies
        .frameStart h) = false := by
      rw [Bool.eq_false_iff, ne_eq, StreamTable.qualifies_iff hid]
      rintro ⟨-, -, hpending, -⟩
      cases hpending
    have htaken := State.examineCommit_of_qualifies hq
    change s.classify h [] = ((s.withTable s.table.commitStaged).requestsEvent [1, byte h.stream]).classify h []
    rw [State.classify_of_id hkind hid, State.classify_of_id hkind hid, State.classifyStream,
      State.classifyStream, State.examineCommit_of_not hdone, htaken]
  case stands =>
    have hq : s.table.qualifies .frameStart h = false := by
      rw [Bool.eq_false_iff, ne_eq, StreamTable.qualifies_iff hid]
      rintro ⟨-, hlen, -, hpixel⟩
      rcases hnot with h1 | h1 | ⟨members, out, size, limit, pairs, h1⟩
      · exact h1 hlen
      · rw [h1] at hpixel; cases hpixel
      · rw [h1] at hpixel; cases hpixel
    rw [State.classify_of_id hkind hid, State.classifyStream, State.examineCommit_of_not hq]
    exact s.applyVerdict_table h _ _

end Sys2Proof.Machine

/-! THEOREMS. The slicer (R56, R69, R71 to R78). -/

namespace Sys2Proof.Machine

/-! ### Lines -/

theorem Window.meets_iff (w : Window) (line column n : Nat) : w.meets line column n = true
    ↔ w.firstLine ≤ line ∧ line < w.firstLine + w.height
      ∧ max column w.firstColumn < min (column + n) (w.firstColumn + w.width) :=
  decide_eq_true_iff

theorem lineFor_eq {out size : Nat} {windows : Vector (Option Window) 4} {h : Header}
    {payload : List Byte} {p : PortId} {w : Window} (hw : windows[p] = some w) :
    lineFor out size windows h payload p
      = if w.meets h.line h.column (h.length / size) then
          some { port := p, pieces := [linePiece out size w h payload] } else none := by
  simp only [lineFor, hw]

theorem lineFor_of_none {out size : Nat} {windows : Vector (Option Window) 4} {h : Header}
    {payload : List Byte} {p : PortId} (hw : windows[p] = none) :
    lineFor out size windows h payload p = none := by
  simp only [lineFor, hw]

/-- Runs of whole pixels that follow one another. -/
theorem pixel_runs {a b c size : Nat} (hab : a ≤ b) (hbc : b ≤ c) :
    (b - a) * size + (c - b) * size = (c - a) * size := by
  rw [← Nat.add_mul]
  congr 1
  omega

/-- Settles O16: the pixels of the slice are one run of the packet's bytes, which begins at the first common
column. -/
theorem aSliceHoldsThePixelsOfItsWindow : Obligations.ASliceHoldsThePixelsOfItsWindow := by
  intro out size windows h payload p w hw hsize hlen hmod n low high meets
  have hmeets : w.meets h.line h.column n = true ↔ meets := w.meets_iff h.line h.column n
  refine ⟨fun hno => ?miss, fun hyes => ?meets⟩
  case miss => rw [lineFor_eq hw, if_neg (mt hmeets.1 hno)]
  case meets =>
    have hlt : low < high := hyes.2.2
    have hwhole : n * size = payload.length := by
      rw [hlen]
      exact Nat.div_mul_cancel (Nat.dvd_of_mod_eq_zero hmod)
    have hlow : h.column ≤ low := Nat.le_max_left _ _
    have hhigh : high ≤ h.column + n := Nat.min_le_left _ _
    have hruns := pixel_runs (size := size) hlow hlt.le
    have hbound : (high - h.column) * size ≤ n * size := Nat.mul_le_mul_right size (by omega)
    refine ⟨linePiece out size w h payload, ?_, rfl, rfl, rfl, rfl, rfl, rfl, rfl, rfl, rfl, ?_,
      fun column i hc hc' hi => ?_⟩
    · rw [lineFor_eq hw, if_pos (hmeets.2 hyes)]
    · change (((payload.drop ((low - h.column) * size)).take ((high - low) * size))).length = _
      rw [List.length_take, List.length_drop]
      omega
    · change ((payload.drop ((low - h.column) * size)).take ((high - low) * size))[(column - low) * size + i]? = _
      have hcolumn : (column + 1 - low) * size ≤ (high - low) * size :=
        Nat.mul_le_mul_right size (by omega)
      have hnext : (column + 1 - low) * size = (column - low) * size + size := by
        rw [Nat.succ_sub hc, Nat.succ_mul]
      rw [List.getElem?_take_of_lt (by omega), List.getElem?_drop, ← pixel_runs hlow hc, Nat.add_assoc]

/-! ### Writes -/

/-- Runs of `m` elements, one after the other, give back the list. -/
theorem flatMap_runs {α : Type} (l : List α) (m n : Nat) :
    (List.range n).flatMap (fun k => (l.drop (k * m)).take m) = l.take (n * m) := by
  induction n with
  | zero => simp
  | succ n ih =>
    rw [List.range_succ, List.flatMap_append, ih, List.flatMap_singleton, Nat.succ_mul, List.take_add]

/-- R75: K runs of S − 1 bytes hold the parameters, and K − 1 do not. -/
theorem splitCount_bounds {len size : Nat} (hs : 2 ≤ size) (hl : size < len) :
    len - 1 ≤ splitCount len size * (size - 1) ∧ (splitCount len size - 1) * (size - 1) < len - 1 := by
  have hmod := Nat.div_add_mod ((len - 1) + (size - 1) - 1) (size - 1)
  have hlt := Nat.mod_lt ((len - 1) + (size - 1) - 1) (show 0 < size - 1 by omega)
  have hpos := splitCount_pos hs hl
  have hprev : (splitCount len size - 1) * (size - 1) + (size - 1) = splitCount len size * (size - 1) := by
    rw [← Nat.succ_mul, Nat.succ_eq_add_one, Nat.sub_add_cancel hpos]
  rw [Nat.mul_comm] at hmod
  change splitCount len size * (size - 1) + _ = _ at hmod
  omega

section
variable {out size : Nat} {pairs : List SplitPair} {h : Header} {opcode : Byte} {parameters : List Byte}

theorem writePieces_of_le (hl : parameters.length + 1 ≤ size) :
    writePieces out size pairs h (opcode :: parameters) = [writePiece out h 1 1 (opcode :: parameters)] :=
  if_pos hl

theorem writePieces_of_lt (hl : size < parameters.length + 1) :
    writePieces out size pairs h (opcode :: parameters)
      = (List.range (splitCount (parameters.length + 1) size)).map fun k =>
          writePiece out h (k + 1) (splitCount (parameters.length + 1) size)
            (splitPayload size pairs (opcode :: parameters) k) :=
  if_neg (Nat.not_le.2 hl)

theorem writePieces_length_of_lt (hl : size < parameters.length + 1) :
    (writePieces out size pairs h (opcode :: parameters)).length
      = splitCount (parameters.length + 1) size := by
  rw [writePieces_of_lt hl, List.length_map, List.length_range]

/-- R75: joined without their opcodes, the pieces give back the parameters. -/
theorem writePieces_parameters (hs : 16 ≤ size) :
    ((writePieces out size pairs h (opcode :: parameters)).flatMap fun x => x.payload.tail) = parameters := by
  by_cases hl : parameters.length + 1 ≤ size
  · rw [writePieces_of_le hl]
    exact List.append_nil parameters
  · have hlt := Nat.lt_of_not_le hl
    obtain ⟨hhold, -⟩ := splitCount_bounds (show 2 ≤ size by omega) hlt
    rw [writePieces_of_lt hlt, List.flatMap_map]
    exact (flatMap_runs parameters (size - 1) _).trans (List.take_of_length_le hhold)

/-- R75: the opcodes of the pieces. -/
theorem writePieces_opcodes (hs : 16 ≤ size) (hl : size < parameters.length + 1) :
    ((writePieces out size pairs h (opcode :: parameters)).map fun x => x.payload.headD 0)
      = opcode :: List.replicate ((writePieces out size pairs h (opcode :: parameters)).length - 1)
          (continuationOf pairs opcode) := by
  rw [writePieces_length_of_lt hl, writePieces_of_lt hl, List.map_map]
  obtain ⟨n, hn⟩ : ∃ n, splitCount (parameters.length + 1) size = n + 1 :=
    Nat.exists_eq_add_of_le' (splitCount_pos (by omega) hl)
  rw [hn, List.range_succ_eq_map, List.map_cons, List.map_map, Nat.add_sub_cancel,
    ← List.length_range (n := n), ← List.map_const, List.length_range]
  rfl

theorem splitPayload_length (k : Nat) : (splitPayload size pairs (opcode :: parameters) k).length
    = min (size - 1) (parameters.length - k * (size - 1)) + 1 := by
  rw [splitPayload, List.length_cons]
  exact congrArg (· + 1) (by rw [parameterRun, List.length_take, List.length_drop, List.tail_cons])

/-- R75: all pieces but the last are full. -/
theorem writePieces_full (hs : 16 ≤ size) (hl : size < parameters.length + 1) :
    ∀ x ∈ (writePieces out size pairs h (opcode :: parameters)).dropLast, x.payload.length = size := by
  obtain ⟨n, hn⟩ : ∃ n, splitCount (parameters.length + 1) size = n + 1 :=
    Nat.exists_eq_add_of_le' (splitCount_pos (by omega) hl)
  obtain ⟨-, hless⟩ := splitCount_bounds (show 2 ≤ size by omega) hl
  rw [hn, Nat.add_sub_cancel, Nat.add_sub_cancel] at hless
  rw [writePieces_of_lt hl, hn, List.range_succ, List.map_append, List.map_singleton,
    List.dropLast_concat]
  intro x hx
  obtain ⟨k, hk, rfl⟩ := List.mem_map.1 hx
  have hkn : (k + 1) * (size - 1) ≤ n * (size - 1) := Nat.mul_le_mul_right _ (List.mem_range.1 hk)
  rw [Nat.succ_mul] at hkn
  change (splitPayload size pairs (opcode :: parameters) k).length = size
  rw [splitPayload_length]
  omega

theorem writePieces_fields (hs : 16 ≤ size) :
    ∀ x ∈ writePieces out size pairs h (opcode :: parameters),
      1 ≤ x.payload.length ∧ x.payload.length ≤ size ∧ x.kind = .write ∧ x.outStream = out
        ∧ x.tag = h.tag ∧ x.position = none ∧ x.returnLimit = none ∧ x.link = none := by
  by_cases hl : parameters.length + 1 ≤ size
  · rw [writePieces_of_le hl]
    intro x hx
    rw [List.mem_singleton] at hx
    subst hx
    exact ⟨Nat.succ_pos _, hl, rfl, rfl, rfl, rfl, rfl, rfl⟩
  · rw [writePieces_of_lt (Nat.lt_of_not_le hl)]
    intro x hx
    obtain ⟨k, -, rfl⟩ := List.mem_map.1 hx
    have hlen := splitPayload_length (size := size) (pairs := pairs) (opcode := opcode)
      (parameters := parameters) k
    refine ⟨?_, ?_, rfl, rfl, rfl, rfl, rfl, rfl⟩
    · exact hlen ▸ Nat.succ_pos _
    · refine hlen.le.trans ?_
      omega

/-- R75, R76: the pieces are numbered from 1, and only the last of an acknowledged WRITE asks for an answer. -/
theorem writePieces_places (k : Nat) (x : Piece)
    (hx : (writePieces out size pairs h (opcode :: parameters))[k]? = some x) :
    let count := (writePieces out size pairs h (opcode :: parameters)).length
    x.place = some { index := k + 1, count := count }
      ∧ x.ackRequest = (h.ackRequest && decide (k + 1 = count))
      ∧ x.answerRequired = (h.ackRequest && decide (k + 1 = count)) := by
  by_cases hl : parameters.length + 1 ≤ size
  · rw [writePieces_of_le hl] at hx ⊢
    obtain ⟨hk, rfl⟩ := List.getElem?_eq_some_iff.1 hx
    obtain rfl : k = 0 := Nat.lt_one_iff.1 hk
    exact ⟨rfl, rfl, rfl⟩
  · have hlt := Nat.lt_of_not_le hl
    rw [writePieces_length_of_lt hlt]
    rw [writePieces_of_lt hlt, List.getElem?_map, Option.map_eq_some_iff] at hx
    obtain ⟨j, hj, rfl⟩ := hx
    obtain ⟨_, hjk⟩ := List.getElem?_eq_some_iff.1 hj
    rw [List.getElem_range] at hjk
    subst hjk
    exact ⟨rfl, rfl, rfl⟩

theorem continuationOf_unique {pair : SplitPair} (hmem : pair ∈ pairs) (hlead : pair.lead = opcode)
    (hone : ∀ q ∈ pairs, q.lead = opcode → q = pair) :
    continuationOf pairs opcode = pair.continuation := by
  cases hf : pairs.find? fun x => x.lead == opcode with
  | none => exact absurd hlead (by simpa using List.find?_eq_none.1 hf pair hmem)
  | some q =>
    have hq := hone q (List.mem_of_find?_eq_some hf) (by simpa using List.find?_some hf)
    simp only [continuationOf, hf, hq]

end

/-! ### The live members -/

/-- The ports of pieces formed for every live member. -/
theorem map_port_eq {f : PortId → PortPieces} (hf : ∀ p, (f p).port = p) (l : List PortId) :
    (l.map f).map PortPieces.port = l := by
  rw [List.map_map, show PortPieces.port ∘ f = id from funext hf, List.map_id]

/-- Settles O17: the pieces of a WRITE are runs of its parameters, and the slicer forms pieces port by port
over the live members. -/
theorem packetsAreSlicedForTheirLiveMembers : Obligations.PacketsAreSlicedForTheirLiveMembers := by
  refine ⟨fun out size pairs h opcode parameters hs => ⟨fun hl => ?whole, writePieces_parameters hs,
    fun pair hmem hlead hone hl => ⟨?opcodes, ?count, writePieces_full hs hl⟩, writePieces_fields hs,
    writePieces_places⟩, ?packets⟩
  case whole => rw [writePieces_of_le hl]; rfl
  case opcodes => rw [writePieces_opcodes hs hl, continuationOf_unique hmem hlead hone]
  case count =>
    rw [writePieces_length_of_lt hl, splitCount]
    congr 1
    omega
  case packets =>
    intro s members out size returnLimit windows pairs h payload live goesTo blank pixel command starts slices
      writes reads read limit
    have hlive := s.mem_liveMembers members
    have ascends (kind : StreamKind) (fields : EntryClass) :=
      s.sliceFor_ascends kind h payload members out fields
    have every {kind : StreamKind} {fields : EntryClass} {f : PortId → PortPieces}
        (hf : ∀ p, (f p).port = p)
        (hslice : s.sliceFor kind h payload members out fields
          = ((PortSet.toList members).filter fun p => (s.port p).live).map f) :
        goesTo (s.sliceFor kind h payload members out fields) live := by
      refine ⟨ascends kind fields, fun p => ?_⟩
      rw [hslice, map_port_eq hf]
      exact hlive p
    refine ⟨⟨every (f := frameStartFor out) (fun _ => rfl) rfl, fun x hx => ?_⟩,
      ⟨⟨ascends .line pixel, fun p => ?_⟩, fun x hx => ?_⟩,
      ⟨every (f := fun p => { port := p, pieces := writePieces out size pairs h payload }) (fun _ => rfl) rfl,
        fun x hx => ?_⟩,
      ⟨every (f := fun p =>
          { port := p, pieces := readPieces out returnLimit (s.port p).limit h payload }) (fun _ => rfl) rfl,
        fun x hx => ?_⟩⟩
    · obtain ⟨p, -, rfl⟩ := List.mem_map.1 hx
      rfl
    · refine List.mem_map.trans ⟨?_, ?_⟩
      · rintro ⟨x, hx, hxp⟩
        obtain ⟨q, hq, hline⟩ := List.mem_filterMap.1 hx
        obtain rfl : q = p := (lineFor_port hline).symm.trans hxp
        refine ⟨(hlive q).1 hq, ?_⟩
        cases hw : windows[q] with
        | none => rw [lineFor_of_none hw] at hline; cases hline
        | some w =>
          rw [lineFor_eq hw] at hline
          split at hline
          next hm => exact ⟨w, rfl, (w.meets_iff _ _ _).1 hm⟩
          next => cases hline
      · rintro ⟨hp, w, hw, hm⟩
        have hline := lineFor_eq (out := out) (size := size) (h := h) (payload := payload) hw
        rw [if_pos ((w.meets_iff _ _ _).2 hm)] at hline
        exact ⟨_, List.mem_filterMap.2 ⟨p, (hlive p).2 hp, hline⟩, rfl⟩
    · obtain ⟨q, -, hline⟩ := List.mem_filterMap.1 hx
      exact lineFor_port hline ▸ hline
    · obtain ⟨p, -, rfl⟩ := List.mem_map.1 hx
      rfl
    · obtain ⟨p, -, rfl⟩ := List.mem_map.1 hx
      rfl

end Sys2Proof.Machine

/-! THEOREMS. Return turns (R22, R138 to R143, R184). -/

namespace Sys2Proof.Machine

/-! ### The bytes of the ROOM -/

theorem flagBit_eq_toNat (b : Bool) : flagBit b = b.toNat := by
  cases b <;> rfl

theorem sum_flagBit_eq_ofBits : ∀ (n : Nat) (f : Fin n → Bool),
    ((List.finRange n).map fun t => flagBit (f t) * 2 ^ t.val).sum = Nat.ofBits f
  | 0, _ => rfl
  | n + 1, f => by
    have htail : ((List.finRange n).map fun t => flagBit (f t.succ) * 2 ^ (t.val + 1)).sum
        = 2 * Nat.ofBits (f ∘ Fin.succ) := by
      rw [← sum_flagBit_eq_ofBits n (f ∘ Fin.succ), ← List.sum_map_mul_left]
      refine congrArg List.sum (List.map_congr_left fun t _ => ?_)
      simp only [Function.comp_apply]
      ring
    rw [List.finRange_succ, List.map_cons, List.sum_cons, List.map_map, Nat.ofBits_succ, ← htail,
      flagBit_eq_toNat]
    simp only [Fin.val_zero, pow_zero, mul_one, Function.comp_def, Fin.val_succ]
    exact Nat.add_comm _ _

/-- R184: the tags in use, read as bits. -/
theorem State.tagsInUse_eq (s : State) : s.tagsInUse = Nat.ofBits s.tagHeld :=
  sum_flagBit_eq_ofBits 16 s.tagHeld

theorem State.tagsInUse_lt (s : State) : s.tagsInUse < 65536 := by
  rw [s.tagsInUse_eq]
  exact Nat.ofBits_lt_two_pow _

theorem State.testBit_tagsInUse (s : State) (k : Tag) :
    s.tagsInUse.testBit k.val = (s.record k).isSome := by
  rw [s.tagsInUse_eq]
  exact Nat.testBit_ofBits_lt s.tagHeld k.val k.isLt

theorem roomFlags_eq (lost : LostFlag) (commit : CommitState) :
    roomFlags lost commit = byte ((if lost = .clear then 0 else 1)
      + (if commit = .pendingFrame then 2 else 0)) := by
  cases lost <;> cases commit <;> rfl

theorem LostFlag.afterRoomBuilt_eq (l : LostFlag) :
    l.afterRoomBuilt = if l = .clear then .clear else .carried := by
  cases l <;> rfl

theorem LostFlag.afterRoomSent_eq (l : LostFlag) :
    l.afterRoomSent = if l = .carried then .clear else l := by
  cases l <;> rfl

/-- Settles O18: the ROOM is composed from its payload, and the tags in use are the number whose bits the
records give. -/
theorem theHostsPassOpensAReturnTurn : Obligations.TheHostsPassOpensAReturnTurn := by
  intro s hd hr
  refine ⟨s.tagsInUse, s.tagsInUse_lt, s.testBit_tagsInUse, ?_⟩
  intro payload
  have hpayload : s.roomPayload = payload := by
    simp only [State.roomPayload, roomFlags_eq, List.append_assoc]
    rfl
  have hwire : s.roomWire
      = composeHeader 0x44 31 false 0 0 0 20 ++ payload ++ halfBytes (crc16 payload) := by
    rw [← hpayload, List.append_assoc]
    rfl
  refine congrArg Host.Outcome.next ((State.onHostToken_of_resting hd hr _).trans ?_)
  rw [← hwire, ← LostFlag.afterRoomBuilt_eq]
  rfl

/-! ### The course of a turn -/

theorem State.onTurn_of_holder {s : State} {x : Turn} (hd : s.upstream.direction = .holder)
    (ht : s.upstream.turn = some x) {phase : TurnPhase} (hp : x.phase = phase) (f : Turn → State) :
    s.onTurn phase f = f x := by
  simp only [State.onTurn, hd, ht, hp, if_true]

theorem nextInTurn_nil (x : Turn) : nextInTurn x [] = { x with phase := .closing, wire := [] } := by
  simp only [nextInTurn, ite_self]

theorem State.releaseFor_of_report {s : State} {e : Entry} {k : Tag} (h : e.slot = .reportOf k) :
    s.releaseFor e = s.setRecord k none := by
  simp only [State.releaseFor, h]

theorem State.releaseFor_of_other {s : State} {e : Entry} (h : ∀ k, e.slot ≠ .reportOf k) :
    s.releaseFor e = s := by
  unfold State.releaseFor
  split
  · next k hk => exact absurd hk (h k)
  · rfl
  · rfl

/-- Settles O19: `onTurn` picks the row of the turn's phase, and `nextInTurn` what follows. -/
theorem aReturnTurnRunsItsCourse : Obligations.AReturnTurnRunsItsCourse := by
  intro s x hd ht next after
  have hnext : ∀ count queue, next count queue = nextInTurn { x with sent := count } queue := by
    intro count queue
    cases queue with
    | nil => exact (nextInTurn_nil { x with sent := count }).symm
    | cons e rest => rfl
  refine ⟨fun hp => ?room, fun e rest hp hq => ?entry, ?ended⟩
  case room =>
    refine congrArg Host.Outcome.next ((State.onTurn_of_holder hd ht hp _).trans ?_)
    rw [hnext, ← LostFlag.afterRoomSent_eq]
    rfl
  case entry =>
    intro sent
    have hsent : exec .entrySent s = .next (s.entrySent x e rest) := by
      refine congrArg Host.Outcome.next ((State.onTurn_of_holder hd ht hp _).trans ?_)
      simp only [State.headSent, hq]
    simp only [sent, hnext, hsent, State.entrySent]
    refine ⟨fun k hk => ?_, fun hk => ?_⟩
    · rw [State.releaseFor_of_report hk]
      rfl
    · rw [State.releaseFor_of_other hk]
      rfl
  case ended =>
    intro ended
    refine ⟨fun hp => congrArg Host.Outcome.next (State.onTurn_of_holder hd ht hp _), ?_⟩
    refine congrArg Host.Outcome.next ?_
    simp only [State.hostCollision, hd]
    rfl

end Sys2Proof.Machine

/-! THEOREMS. The hub clear (R45, R110, R129, R147, R159, R179). -/

namespace Sys2Proof.Machine

/-! ### Clearing by the phase of the port (R101) -/

/-- A clearing goes on toward the new destination. -/
theorem Port.clearToward_of_clearing {x : Port} {d : Destination} (h : x.phase = .clearing d)
    (e : Destination) : x.clearToward e = { x with phase := .clearing e } := by
  simp only [Port.clearToward, Port.isClearing, h, if_true]

/-- A port that is not CLEARING enters it. -/
theorem Port.clearToward_of_other {x : Port} (h : ∀ d, x.phase ≠ .clearing d) (e : Destination) :
    x.clearToward e = { x with
      phase := .clearing e, holder := x.linkAtClearing.1, seize := x.linkAtClearing.2.1
      tx := x.linkAtClearing.2.2, rx := x.rxAtClearing } := by
  have hc : x.isClearing = false := by
    unfold Port.isClearing
    split
    next d hd => exact absurd hd (h d)
    all_goals rfl
  rw [Port.clearToward_eq, hc, x.enterClearing_eq]
  rfl

/-! ### A port at the hub clear (R110) -/

theorem Port.hubCleared_of_live {x : Port} (h : x.live = true) :
    x.hubCleared = { x.swept.clearToward .ready with owed := .none } := by
  simp only [Port.hubCleared, h, if_true, x.flushed_eq]

theorem Port.hubCleared_of_not_live {x : Port} (h : x.live = false) :
    x.hubCleared = { x with owed := .none } := by
  simp only [Port.hubCleared, h, Bool.false_eq_true, if_false]

/-- A clearing toward READY goes on, flushed. -/
theorem Port.hubCleared_of_clearing {x : Port} (h : x.phase = .clearing .ready) :
    x.hubCleared = { x.swept with owed := .none } := by
  rw [Port.hubCleared_of_live (by simp only [Port.live, h]),
    Port.clearToward_of_clearing (x := x.swept) h, ← h]
  rfl

/-- A live port that is not CLEARING is flushed and enters CLEARING toward READY. -/
theorem Port.hubCleared_of_entering {x : Port} (h : x.live = true) (hc : ∀ d, x.phase ≠ .clearing d) :
    x.hubCleared = { x.swept with
      phase := .clearing .ready, holder := x.linkAtClearing.1, seize := x.linkAtClearing.2.1
      tx := x.linkAtClearing.2.2, rx := x.rxAtClearing, owed := .none } := by
  rw [Port.hubCleared_of_live h, Port.clearToward_of_other (x := x.swept) hc]
  rfl

/-- Settles O20: block by block; a port's part follows from its phase. -/
theorem aHubClearDiscardsAllWork : Obligations.AHubClearDiscardsAllWork := by
  intro s hd hr
  refine ⟨s.hubCleared, congrArg _ (State.onHostToken_of_resting hd hr _), rfl, rfl, fun p => ?port,
    State.replicate_record rfl, rfl, rfl, fun g => ?group, rfl, rfl, rfl, rfl⟩
  case group => exact forFour_getElem (fun g => (s.group g).cleared) g
  case port =>
    rw [State.hubCleared_port]
    rcases hp : (s.port p).phase with d | _ | _ | _ | _ | c
    case clearing =>
      cases d with
      | ready =>
        rw [Port.hubCleared_of_clearing hp]
        simp only [hp]
      | down c =>
        rw [Port.hubCleared_of_not_live (by simp only [Port.live, hp])]
        simp only [hp]
    case down =>
      rw [Port.hubCleared_of_not_live (by simp only [Port.live, hp])]
      simp only [hp]
    all_goals
      rw [Port.hubCleared_of_entering (by simp only [Port.live, hp]) (by simp [hp])]
      simp only [hp]

end Sys2Proof.Machine

/-! THEOREMS. What a port has sent (R87 to R90, R101, R115). -/

namespace Sys2Proof.Machine

/-! ### A piece sent in full -/

theorem exec_pieceSent_of_sending {s : State} {p : PortId} {wire : List Byte} {head : Piece}
    {rest : List Piece} (hp : (s.port p).phase = .sending) (ht : (s.port p).tx = .piece wire)
    (hq : (s.port p).queue = head :: rest) :
    exec (.pieceSent p) s
      = .next (s.setPort p (((s.port p).afterPiece head rest).judge (s.wanted p))) := by
  have hsent : s.pieceSent p = (s.setPort p ((s.port p).afterPiece head rest)).judgePort p := by
    simp only [State.pieceSent, hp, ht, hq]
  exact congrArg _ (hsent.trans (s.judgePort_setPort p _))

/-- Settles O21: a port that stays SENDING does not judge; one whose queue is empty is READY and judges
whether to watch. -/
theorem aPieceSentTakesOneOfThreeCourses : Obligations.APieceSentTakesOneOfThreeCourses := by
  intro s p wire head rest hp ht hq x
  rw [exec_pieceSent_of_sending hp ht hq]
  refine ⟨fun ha => ?answer, fun next more ha hrest => ?next, fun ha hrest => ?ends⟩
  case answer =>
    have hafter : (s.port p).afterPiece head rest
        = { x with pendingAnswer := some head.pending, tx := .passAnswer } := by
      simp only [Port.afterPiece, ha, if_true, x]
      rfl
    rw [hafter, Port.judge_of_busy _ _ (.inr (by simp))]
    rfl
  case next =>
    have hafter : (s.port p).afterPiece head rest = { x with tx := .piece next.wire } := by
      simp only [Port.afterPiece, ha, hrest, Bool.false_eq_true, if_false, x]
      rfl
    rw [hafter, Port.judge_of_busy _ _ (.inr (by simp))]
  case ends =>
    have hafter : (s.port p).afterPiece head rest
        = { x with phase := .ready, tx := .idle, failures := 0 } := by
      simp only [Port.afterPiece, ha, hrest, Bool.false_eq_true, if_false, x]
      rfl
    rw [hafter, Port.judge_of_ready _ _ rfl rfl]
    simp only [Port.readyToSend, x, hrest]

/-! ### A PASS sent in full -/

theorem exec_exchangeOpen (p : PortId) (s : State) :
    exec (.exchangeOpen p) s = .next (s.answerPassSent p) := rfl

theorem exec_watchOpen (p : PortId) (s : State) :
    exec (.watchOpen p) s = .next (s.watchPassSent p) := rfl

/-- A change to an OPEN record is made. -/
theorem State.onOpenRecord_of_opened {s : State} {k : Tag} {r : Transaction} (hr : s.record k = some r)
    (ho : r.state = .opened) (f : Transaction → State) : s.onOpenRecord k f = f r := by
  simp only [State.onOpenRecord, hr, ho, if_true]

/-- Settles O22: the phase and the transmission pick the row; a link says whether the table is told. -/
theorem anExchangeOpensWhenItsPassIsSent : Obligations.AnExchangeOpensWhenItsPassIsSent := by
  intro s p x lent exchange
  refine ⟨fun a hp ht ha => ?answer, fun hp ht => ?watch, fun d hp => ?clearing⟩
  case answer =>
    intro opened
    have hopens : s.answerPassSent p = s.openExchange p a := by
      simp only [State.answerPassSent]
      rw [hp, ht, ha]
    rw [exec_exchangeOpen, hopens]
    refine ⟨fun hl => ?_, fun k r hl hr ho => ?_⟩
    · simp only [State.openExchange, hl]
      rfl
    · simp only [State.openExchange, hl]
      exact congrArg _ (State.onOpenRecord_of_opened (s := opened) hr ho _)
  case watch =>
    have hopens : s.watchPassSent p = s.setPort p (s.port p).openWatch := by
      simp only [State.watchPassSent]
      rw [hp, ht]
    rw [exec_watchOpen, hopens]
    rfl
  case clearing =>
    intro seized
    refine ⟨fun ht => ?_, fun ht => ?_⟩
    · rw [exec_exchangeOpen]
      simp only [State.answerPassSent]
      rw [hp, ht]
      rfl
    · rw [exec_watchOpen]
      simp only [State.watchPassSent]
      rw [hp, ht]
      rfl

end Sys2Proof.Machine

/-! THEOREMS. What a tile sends (R5, R6, R11, R15, R19, R20, R24, R91, R93 to R95). -/

namespace Sys2Proof.Machine

/-! ### The judgement of a packet (R11, R24) -/

theorem kindOfByte_reply : kindOfByte 0x40 = some .reply := rfl

theorem kindOfByte_fault : kindOfByte 0x45 = some .fault := rfl

theorem judgeTileGood_of_other {h : Header} (hr : h.kind ≠ 0x40) (hf : h.kind ≠ 0x45)
    (payload : List Byte) : judgeTileGood h payload = .stray := by
  have hreply : kindOfByte h.kind ≠ some .reply := fun hk => hr (kindOfByte_code hk).symm
  have hfault : kindOfByte h.kind ≠ some .fault := fun hk => hf (kindOfByte_code hk).symm
  unfold judgeTileGood
  split
  next hk => exact absurd hk hreply
  next hk => exact absurd hk hreply
  next hk => exact absurd hk hfault
  next hk _ => exact absurd hk hfault
  next => rfl

/-- R24: a FAULT whose Length is not 2 is a bad packet. -/
theorem judgeTileGood_of_fault {h : Header} (hk : h.kind = 0x45) :
    ∀ {payload : List Byte}, payload.length ≠ 2 → judgeTileGood h payload = .badPacket := by
  intro payload hl
  unfold judgeTileGood
  rw [hk, kindOfByte_fault]
  match payload, hl with
  | [], _ => rfl
  | [_], _ => rfl
  | _ :: _ :: _ :: _, _ => rfl

/-- A packet of its header's Length whose check fits is judged by its kind. -/
theorem tileVerdict_of_good {x : TilePacket} {h : Header} (hh : judgeHeader x.header = some h)
    (hlen : x.payload.length = h.length) (hcheck : x.payload ≠ [] → crc16 x.payload = x.check) :
    tileVerdict x = judgeTileGood h x.payload := by
  have hgood : ¬ (x.payload.isEmpty = false ∧ crc16 x.payload ≠ x.check) := by
    rintro ⟨hne, hbad⟩
    exact hbad (hcheck (List.isEmpty_eq_false_iff.1 hne))
  simp only [tileVerdict, hh, hlen, ne_eq, not_true_eq_false, if_false] at hgood ⊢
  rw [if_neg hgood]

/-- Settles O23: header, check, kind and Length are looked at in this order. -/
theorem packetsFromATileAreJudged : Obligations.PacketsFromATileAreJudged := by
  intro x
  refine ⟨fun hh => by simp only [tileVerdict, hh], fun h hh hlen => ⟨fun hne hbad => ?check,
    fun hcheck => ?good⟩⟩
  case check =>
    have hsome : x.payload.isEmpty = false := List.isEmpty_eq_false_iff.2 hne
    simp [tileVerdict, hh, hlen, hsome, hbad]
  case good =>
    rw [tileVerdict_of_good hh hlen hcheck, ← hlen]
    refine ⟨fun hk hl => ?_, fun hk hl => ?_, fun hk hl => judgeTileGood_of_fault hk hl,
      fun b c hk hp => ?_, fun hr hf => judgeTileGood_of_other hr hf _⟩
    · unfold judgeTileGood
      rw [List.eq_nil_of_length_eq_zero hl, hk, kindOfByte_reply]
    · obtain ⟨d, ds, hp⟩ := List.exists_cons_of_length_pos hl
      unfold judgeTileGood
      rw [hp, hk, kindOfByte_reply]
    · unfold judgeTileGood
      rw [hp, hk, kindOfByte_fault]

/-! ### What the open exchange takes -/

/-- R91: a REPLY is taken once by a READ exchange of its tag. -/
theorem Exchange.matchesReply_iff (e : Exchange) (tag : Tag) :
    e.matchesReply tag = true
      ↔ (∃ n, e.answers = .read n) ∧ e.tag = tag ∧ e.reply = none ∧ e.oversize = false := by
  cases h : e.answers <;> simp [Exchange.matchesReply, h, and_assoc]

/-- R93: an ACK is taken once by a WRITE exchange. -/
theorem Exchange.matchesAck_iff (e : Exchange) :
    e.matchesAck = true ↔ e.answers = .write ∧ e.ackSeen = false := by
  cases h : e.answers <;> simp [Exchange.matchesAck, h]

theorem exec_replyArrival_of_inBurstOf {s : State} {p : PortId} {packet : TilePacket} {e : Exchange}
    {tag : Tag} {data : List Byte} (h : s.inBurstOf p e) (hfits : packet.fits = true)
    (hv : tileVerdict packet = .reply tag data) :
    exec (.replyArrival p packet) s = .next (s.setPort p (if e.matchesReply tag then
      { s.port p with exchange := some (e.takeReply data) } else (s.port p).takeStray)) := by
  have ⟨_, _, hopen⟩ := h
  refine congrArg Host.Outcome.next ((State.onTilePacket_of_inBurstOf h hfits _).trans ?_)
  rw [hv, Port.takeReplyVerdict, Port.takeReply, Port.exchangeTakes_of_exchange hopen]

/-- Settles O24: whether the exchange matches, and then whether the data fit, decides. -/
theorem aReplyIsStoredOversizeOrStray : Obligations.AReplyIsStoredOversizeOrStray := by
  intro s p packet e tag data h hfits hv found
  rw [exec_replyArrival_of_inBurstOf h hfits hv]
  refine ⟨fun n hfound hn hfit => ?_, fun n hfound hn hlong => ?_, fun hstray => ?_⟩
  · rw [if_pos ((e.matchesReply_iff tag).2 hfound), Exchange.takeReply, hn]
    simp only [hfit, if_true]
  · rw [if_pos ((e.matchesReply_iff tag).2 hfound), Exchange.takeReply, hn]
    simp only [Nat.not_le.2 hlong, if_false]
  · rw [if_neg (mt (e.matchesReply_iff tag).1 hstray)]
    rfl

/-! ### Tokens from a tile (R5, R6, R24) -/

theorem State.onTileToken_of_resting {s : State} {p : PortId} (hr : (s.port p).receives = true)
    (hx : (s.port p).rx = .resting) (act : State → State) : s.onTileToken p act = act s := by
  simp only [State.onTileToken, hr, hx, if_true]

theorem State.onTileToken_of_not_resting {s : State} {p : PortId} (hr : (s.port p).receives = true)
    (hx : (s.port p).rx ≠ .resting) (act : State → State) :
    s.onTileToken p act = s.setPort p (s.port p).takeStray := by
  cases h : (s.port p).rx with
  | resting => exact absurd h hx
  | inBurst => simp only [State.onTileToken, hr, h, if_true]
  | desync => simp only [State.onTileToken, hr, h, if_true]

theorem exec_ackToken_of_resting {s : State} {p : PortId} {e : Exchange}
    (hr : (s.port p).receives = true) (hx : (s.port p).rx = .resting)
    (he : (s.port p).exchange = some e) :
    exec (.ackToken p) s = .next (s.setPort p (if e.matchesAck then
      { s.port p with exchange := some { e with ackSeen := true } } else (s.port p).takeStray)) := by
  refine congrArg Host.Outcome.next ((State.onTileToken_of_resting hr hx _).trans ?_)
  rw [Port.takeAck, Port.exchangeTakes_of_exchange he]

/-- Settles O26: a token is taken between bursts only, and an ACK only by an exchange that it matches. -/
theorem strayAnswersAreOnlyCounted : Obligations.StrayAnswersAreOnlyCounted := by
  intro s p e hr he stray
  refine ⟨fun hx hw ha => ?taken, fun hx hstray => ?ack, fun code hx hpass hack hsync => ?code,
    fun code hx => ?token, fun packet hx hfits hv => ?packet⟩
  case taken => rw [exec_ackToken_of_resting hr hx he, if_pos (e.matchesAck_iff.2 ⟨hw, ha⟩)]
  case ack =>
    have hnot : ¬ e.matchesAck = true := by
      rw [e.matchesAck_iff, not_and_or, Bool.not_eq_false]
      exact hstray
    rw [exec_ackToken_of_resting hr hx he, if_neg hnot]
    rfl
  case code =>
    have hnot : tileMaySend code = false := by
      simp only [tileMaySend, Bool.or_eq_false_iff, beq_eq_false_iff_ne]
      exact ⟨⟨hpass, hack⟩, hsync⟩
    refine congrArg Host.Outcome.next ((State.onTileToken_of_resting hr hx _).trans ?_)
    rw [hnot]
    rfl
  case token =>
    have htoken (act : State → State) := State.onTileToken_of_not_resting hr hx act
    exact ⟨congrArg _ (htoken _), congrArg _ (htoken _), congrArg _ (htoken _),
      congrArg _ (htoken _)⟩
  case packet =>
    refine congrArg Host.Outcome.next
      ((State.onTilePacket_of_inBurstOf ⟨hr, hx, he⟩ hfits _).trans ?_)
    rw [hv]
    rfl

end Sys2Proof.Machine

/-! THEOREMS. The framing of a tile link and the PASS of the tile (R15, R19, R20, R24, R86, R89, R94, R95). -/

namespace Sys2Proof.Machine

/-! ### Framing (R15, R19, R20, R24) -/

theorem State.whileReceiving_of_receives {s : State} {p : PortId} (hr : (s.port p).receives = true)
    (f : Port → Port) : s.whileReceiving p f = s.setPort p (f (s.port p)) := by
  simp only [State.whileReceiving, hr, if_true]

/-- A receiver that is in this state stays so. -/
theorem Port.with_rx_same {x : Port} {rx : RxState} (h : x.rx = rx) : { x with rx := rx } = x := by
  subst h
  rfl

/-- R15: a burst open that cuts no packet short. -/
theorem Port.openTileBurst_of_uncut {x : Port} {cut : List Byte} (h : x.rx = .inBurst → cut = []) :
    x.openTileBurst cut = { x with rx := .inBurst } := by
  cases hx : x.rx with
  | inBurst =>
    rw [Port.with_rx_same hx]
    simp only [Port.openTileBurst, hx, h hx, Port.cutShort, List.isEmpty_nil, if_true]
  | resting => simp only [Port.openTileBurst, hx]
  | desync => simp only [Port.openTileBurst, hx]

/-- R19: a burst close that cuts no packet short. -/
theorem Port.closeTileBurst_of_uncut {x : Port} {cut : List Byte} (h : x.rx = .inBurst → cut = []) :
    x.closeTileBurst cut = { x with rx := .resting } := by
  cases hx : x.rx with
  | inBurst => simp only [Port.closeTileBurst, hx, h hx, Port.cutShort, List.isEmpty_nil, if_true]
  | resting =>
    rw [Port.with_rx_same hx]
    simp only [Port.closeTileBurst, hx]
  | desync => simp only [Port.closeTileBurst, hx]

/-- R4: a burst open or close that cuts a packet short makes a bad packet of it. -/
theorem Port.cutShort_of_ne_nil (x : Port) {cut : List Byte} (h : cut ≠ []) :
    x.cutShort cut = x.takeBad := by
  have hcut : cut.isEmpty = false := List.isEmpty_eq_false_iff.2 h
  simp only [Port.cutShort, hcut, Bool.false_eq_true, if_false]

theorem Port.takeBad_of_exchange {x : Port} {e : Exchange} (h : x.exchange = some e) :
    x.takeBad = { x with exchange := some { e with badCheck := true }, counts := x.counts.badPacket } := by
  simp only [Port.takeBad, h, Option.map_some]

/-- Settles O27: the receiver follows the burst open and close, and whatever is bad marks the exchange. -/
theorem tileFramingMarksBadPackets : Obligations.TileFramingMarksBadPackets := by
  intro s p cut b hr
  have hframe (f : Port → Port) := State.whileReceiving_of_receives hr f
  refine ⟨fun _ huncut => ⟨congrArg _ ((hframe _).trans ?_), congrArg _ ((hframe _).trans ?_)⟩,
    fun hx => congrArg _ ((hframe _).trans ?_), fun e h => ?bad⟩
  · rw [Port.openTileBurst_of_uncut huncut]
  · rw [Port.closeTileBurst_of_uncut huncut]
  · simp only [Port.takeStrayData, hx]
  case bad =>
    intro bad
    have ⟨_, hx, hopen⟩ := h
    have hbad : (s.port p).takeBad = bad := Port.takeBad_of_exchange hopen
    have hpacket (packet : TilePacket) (hfits : packet.fits = true) :
        exec (.tileBadPacket p packet) s
          = .next (s.setPort p ((s.port p).takeBadVerdict (tileVerdict packet))) :=
      congrArg _ (State.onTilePacket_of_inBurstOf h hfits _)
    refine ⟨fun packet hfits hv => ?_, fun packet hfits hv => ?_, fun _ hcut =>
      ⟨congrArg _ ((hframe _).trans ?_), congrArg _ ((hframe _).trans ?_)⟩⟩
    · rw [hpacket packet hfits, hv, Port.takeBadVerdict, hbad]
    · rw [hpacket packet hfits, hv, Port.takeBadVerdict, hbad]
    · simp only [Port.openTileBurst, hx, Port.cutShort_of_ne_nil _ hcut, hbad]
    · simp only [Port.closeTileBurst, hx, Port.cutShort_of_ne_nil _ hcut, hbad]

/-! ### The tile's PASS (R86, R89, R95) -/

/-- A free or DONE record is left as it is. -/
theorem State.onOpenRecord_of_not_opened {s : State} {k : Tag}
    (h : ∀ r, s.record k = some r → r.state ≠ .opened) (f : Transaction → State) :
    s.onOpenRecord k f = s := by
  rcases s.onOpenRecord_cases k f with ⟨r, hr, ho, _⟩ | ⟨_, hsame⟩
  · exact absurd ho (h r hr)
  · exact hsame

/-- A result and a write of a port do not meet. -/
theorem State.takeResult_setPort (s : State) (p q : PortId) (x : Port) (e : Exchange) :
    (s.setPort q x).takeResult p e = (s.takeResult p e).setPort q x := by
  rcases s.onOpenRecord_cases e.tag (fun r => s.storeOrComplete e.tag
      { r.settle p e.outcome false e.errorWord with data := e.dataFor r.data })
    with ⟨r, hr, ho, h⟩ | ⟨hno, h⟩
  · rw [show s.takeResult p e = _ from h]
    refine (State.onOpenRecord_of_opened (s := s.setPort q x) hr ho _).trans ?_
    simp only [State.storeOrComplete]
    split <;> rfl
  · rw [show s.takeResult p e = s from h]
    exact State.onOpenRecord_of_not_opened (s := s.setPort q x) hno _

/-- Settles O28: the exchange ends, its result is handed over, and the READY port judges. -/
theorem theTilesPassEndsTheExchange : Obligations.TheTilesPassEndsTheExchange := by
  intro s p e h ht told
  obtain ⟨hr, hx, hopen⟩ := h
  have hpassed : exec (.tilePass p) s
      = .next (((s.setPort p (s.port p).endExchange).handResult p e).judgePort p) := by
    refine congrArg Host.Outcome.next ((State.onTileToken_of_resting hr hx _).trans ?_)
    simp only [State.tilePassed, hopen]
  have htold : (s.setPort p (s.port p).endExchange).handResult p e
      = told.setPort p (s.port p).endExchange := by
    simp only [State.handResult, e.hasResult_iff, told]
    split
    · exact State.takeResult_setPort s p p _ e
    · rfl
  have hwanted : told.wanted p = s.wanted p := by
    simp only [told]
    split
    · exact s.takeResult_wanted p p e
    · rfl
  have hended : (s.port p).endExchange = { s.port p with
      phase := .ready, holder := .hub, exchange := none, answerTimer := none, failures := 0 } := by
    rw [Port.endExchange, ← hx]
  rw [hpassed, htold, State.judgePort_setPort, hwanted, hended]
  refine congrArg Host.Outcome.next (congrArg (told.setPort p) ?_)
  exact Port.judge_of_ready _ _ rfl ht

end Sys2Proof.Machine

/-! THEOREMS. Resolutions and completion (R116 to R118, R124 to R126, R183). -/

namespace Sys2Proof.Machine

/-! ### The bytes of a REPORT -/

theorem PortRecord.flags_eq (q : PortRecord) :
    q.flags = byte ((if q.isPartial then 1 else 0) + (if q.errorWord.isSome then 2 else 0)) := by
  unfold PortRecord.flags flagBit
  split <;> split <;> rfl

/-! ### Completion -/

/-- R124: at completion the record is DONE and its entries stand at the young end of the queue. -/
theorem State.complete_eq_judged (s : State) (k : Tag) (x : Transaction) :
    s.complete k x = (s.setRecord k (some x.closed)).withRet
      ({ s.ret with entries := s.ret.entries ++ x.completionEntries k }).judged := by
  rw [State.complete_eq]
  rcases x.completionEntries_cases k with h | ⟨d, _, _, h⟩ <;> rw [h, ReturnQueue.joined_eq]

/-- R115, R118: what a notice says goes to the OPEN record. -/
theorem State.takeNotice_of_opened {s : State} {r : Transaction} {n : Notice}
    (hr : s.record n.tag = some r) (ho : r.state = .opened) (p : PortId) :
    s.takeNotice p n = s.storeOrComplete n.tag (r.settle p n.outcome n.isPartial none) :=
  State.onOpenRecord_of_opened hr ho _

/-- R116, R117: what an exchange gathered goes to the OPEN record. -/
theorem State.takeResult_of_opened {s : State} {r : Transaction} {e : Exchange}
    (hr : s.record e.tag = some r) (ho : r.state = .opened) (p : PortId) :
    s.takeResult p e = s.storeOrComplete e.tag
      { r.settle p e.outcome false e.errorWord with data := e.dataFor r.data } :=
  State.onOpenRecord_of_opened hr ho _

/-- R117: the data of a result, by what the exchange answers. -/
theorem Exchange.dataFor_eq (e : Exchange) (held : Option (List Byte)) :
    e.dataFor held = match e.answers with
      | .read _ => if e.reply.isSome then e.reply else held
      | .write | .watch => held := by
  unfold Exchange.dataFor
  cases e.answers <;> cases e.reply <;> rfl

/-- Settles O29: both sources settle the part and store the record, which completes when no part is
left. -/
theorem aResolutionSettlesAndCompletes : Obligations.AResolutionSettlesAndCompletes := by
  intro s p k r hr ho partBytes resolved
  have hbytes : partBytes = PortRecord.reportBytes := by
    funext q
    symm
    simp only [PortRecord.reportBytes, q.flags_eq]
    rcases hq : q.state with _ | _ | o
    · simp only [partBytes, hq]
      rfl
    · simp only [partBytes, hq]
      rfl
    · simp only [partBytes, hq]
      cases o <;> rfl
  have hstored : ∀ o b w data, s.storeOrComplete k { r.settle p o b w with data := data }
      = resolved o b w data := by
    intro o b w data
    simp only [State.storeOrComplete, resolved]
    refine if_congr Iff.rfl ?_ rfl
    rw [State.complete_eq_judged, hbytes]
    clear resolved
    obtain ⟨kind, stream, state, deadline, parts, held⟩ := r
    cases kind with
    | read => cases data <;> rfl
    | write => rfl
  refine ⟨fun e he => ?_, fun n hn => ?_⟩
  · subst he
    exact ((State.takeResult_of_opened hr ho p).trans (hstored _ _ _ _)).trans
      (congrArg (resolved e.outcome false e.errorWord) (e.dataFor_eq r.data))
  · subst hn
    rw [State.takeNotice_of_opened hr ho]
    exact hstored _ _ _ r.data

end Sys2Proof.Machine

/-! THEOREMS. Failures and flushes (R96, R98 to R100, R119). -/

namespace Sys2Proof.Machine

/-! ### A failure (R99) -/

/-- A failure that leaves the tile as the holder, by what the failing event makes of the port. -/
theorem State.failPort_eq (s : State) (p : PortId) (f : Port → Port) (h : (f (s.port p)).holder = .tile) :
    s.failPort p f = (s.setPort p { (f (s.port p)).swept with
        phase := .clearing (f (s.port p)).failureDest, holder := .tile, seize := some 20
        rx := .resting, tx := .idle, failures := (f (s.port p)).nextFailures
        counts := (f (s.port p)).swept.counts.failure }).handNotices p
      ((s.port p).notices (s.port p).failureDest.flushCause) := by
  simp only [State.failPort, Port.failed_eq _ h, Config.seizeInterval]

theorem exec_answerTimerExpiry_of_waiting {s : State} {p : PortId} (hp : (s.port p).phase = .waiting)
    (ht : (s.port p).answerTimer.isSome = true) :
    exec (.answerTimerExpiry p) s = .next (s.failPort p Port.timedOut) := by
  obtain ⟨n, hn⟩ := Option.isSome_iff_exists.1 ht
  refine congrArg Host.Outcome.next ?_
  simp only [State.answerExpired, hp, hn]

theorem exec_tileCollision_of_hub {s : State} {p : PortId} (hh : (s.port p).holder = .hub)
    (hs : (s.port p).seize = none) :
    exec (.tileCollision p) s = .next (if (s.port p).isDown then s.setPort p (s.port p).collided
      else s.failPort p Port.collided) := by
  refine congrArg Host.Outcome.next ?_
  simp only [State.tileCollided, hh, hs]

/-- Settles O30: both events leave the tile as the holder; the destination and the notices are those of the
port as the event found it. -/
theorem aFailureFlushesAndSeizes : Obligations.AFailureFlushesAndSeizes := by
  intro s p x failures dest failed collided
  have hdest : dest = x.failureDest := by
    simp only [dest, Port.failureDest]
    rcases x.phase with (_ | _) | _ | _ | _ | _ | _ <;> rfl
  refine ⟨fun hp ht hh => ?timer, fun hh hs hd => ?collision, fun hh hs hd => ?keeps⟩
  case timer =>
    rw [exec_answerTimerExpiry_of_waiting hp ht, State.failPort_eq s p Port.timedOut hh]
    simp only [failed, hdest]
    rfl
  case collision =>
    have hd' : (s.port p).isDown = false := hd
    rw [exec_tileCollision_of_hub hh hs, hd', if_neg (by simp), State.failPort_eq s p Port.collided rfl]
    simp only [failed, hdest]
    rfl
  case keeps =>
    have hd' : (s.port p).isDown = true := hd
    rw [exec_tileCollision_of_hub hh hs, hd', if_pos rfl]
    rfl

/-! ### The notices of a flush (R100, R119) -/

theorem nodup_eraseDups {α : Type} [BEq α] [LawfulBEq α] : ∀ l : List α, l.eraseDups.Nodup
  | [] => List.nodup_nil
  | a :: l => by
    rw [List.eraseDups_cons, List.nodup_cons]
    refine ⟨fun ha => ?_, nodup_eraseDups _⟩
    simp [List.mem_eraseDups] at ha
  termination_by l => l.length
  decreasing_by exact Nat.lt_succ_of_le (List.length_filter_le _ _)

theorem Port.ownTag_of_exchange {x : Port} {e : Exchange} (h : x.exchange = some e) :
    x.ownTag = if e.answers ≠ .watch ∧ e.orphan = false then some e.tag else none := by
  simp only [Port.ownTag, h, Exchange.hasResult_iff]

theorem Port.ownTag_of_no_exchange {x : Port} (h : x.exchange = none) :
    x.ownTag = x.pendingAnswer.bind PendingAnswer.link := by
  simp only [Port.ownTag, h]

/-- R85, R100: what Partial says in the notice of a flushed transaction. -/
theorem Port.queuedNotice_isPartial_iff (x : Port) (why : FlushCause) (k : Tag) :
    (x.queuedNotice why k).isPartial = true ↔ (∃ y, x.onWire = some y ∧ y.link = some k)
      ∨ lacksIndex (x.queue.filter fun y => y.link == some k) = true := by
  have hlinked : Piece.linkedTo k = fun y => y.link == some k := rfl
  simp only [Port.queuedNotice, startedBefore, Bool.or_eq_true, Option.any_eq_true, beq_iff_eq, hlinked]

theorem Port.map_tag_queuedNotice (x : Port) (why : FlushCause) (l : List Tag) :
    (l.map (x.queuedNotice why)).map Notice.tag = l := by
  rw [List.map_map]
  exact List.map_id l

/-- Settles O31: the notice of the port's own transaction, then one for each tag of the queue. -/
theorem aFlushNotifiesEachTransactionOnce : Obligations.AFlushNotifiesEachTransactionOnce := by
  intro x why own hown outcomes
  have howntag : own = x.ownTag := by
    rw [hown]
    cases he : x.exchange with
    | some e => exact (Port.ownTag_of_exchange he).symm
    | none => exact (Port.ownTag_of_no_exchange he).symm
  have houtcomes : outcomes
      = if why = .hubClear then none else some (why.ownOutcome, why.queuedOutcome) := by
    cases why <;> rfl
  rw [houtcomes]
  refine ⟨fun hnone => ?_, fun first others hsome => ?_⟩
  · have hclear : why = .hubClear := by
      by_contra hno
      rw [if_neg hno] at hnone
      cases hnone
    rw [Port.notices, if_pos hclear]
  · have hno : why ≠ .hubClear := by
      intro hclear
      rw [if_pos hclear] at hsome
      cases hsome
    rw [if_neg hno] at hsome
    cases hsome
    refine ⟨(linkedTags x.queue).map (x.queuedNotice why), ?_, ?_, ?_, fun k => ?_, fun n hn => ?_⟩
    · rw [Port.notices, if_neg hno, howntag]
    · exact x.map_tag_queuedNotice why _
    · rw [x.map_tag_queuedNotice]
      exact nodup_eraseDups _
    · rw [x.map_tag_queuedNotice]
      exact mem_linkedTags
    · obtain ⟨k, _, rfl⟩ := List.mem_map.1 hn
      exact ⟨rfl, x.queuedNotice_isPartial_iff why k⟩

end Sys2Proof.Machine

/-! THEOREMS. The end of a clearing (R10, R102, R103, R170, R171). -/

namespace Sys2Proof.Machine

/-! ### Writes of a port that the sync groups do not see -/

theorem State.presentMembers_setPort {s : State} {p : PortId} {y : Port}
    (h : y.isDown = (s.port p).isDown) (m : PortSet) :
    (s.setPort p y).presentMembers m = s.presentMembers m := by
  refine List.filter_congr fun q _ => ?_
  rw [State.setPort_port]
  split
  next hq => rw [h, hq]
  next => rfl

theorem State.roundComplete_setPort {s : State} {p : PortId} {y : Port}
    (h : y.isDown = (s.port p).isDown) (g : GroupId) :
    (s.setPort p y).roundComplete g = s.roundComplete g := by
  simp only [State.roundComplete, State.setPort_group, State.presentMembers_setPort h]

/-- A write that keeps whether the port is DOWN and a member's loss do not meet. -/
theorem State.memberDown_setPort {s : State} {p : PortId} {y : Port}
    (h : y.isDown = (s.port p).isDown) (q : PortId) :
    (s.setPort p y).memberDown q = (s.memberDown q).setPort p y := by
  have hround (g : GroupId) : (s.setPort p y).judgeRound g = (s.judgeRound g).setPort p y := by
    simp only [State.judgeRound, State.roundComplete_setPort h]
    split <;> rfl
  have hloss (g : GroupId) : (s.setPort p y).judgeLoss g = (s.judgeLoss g).setPort p y := by
    simp only [State.judgeLoss, State.setPort_group, State.presentMembers_setPort h, hround]
    split <;> rfl
  have hgroup : (s.setPort p y).groupOf q = s.groupOf q := rfl
  simp only [State.memberDown, hgroup, State.setPort_group, hloss]
  cases s.groupOf q with
  | none => rfl
  | some g => exact (apply_ite (fun u : State => u.setPort p y) _ _ _).symm

/-! ### The CLEAR sent (R102) -/

theorem exec_seizeComplete_of_seize {s : State} {p : PortId} (h : (s.port p).seize.isSome = true) :
    exec (.seizeComplete p) s = .next (s.setPort p (s.port p).seizeCompleted) := by
  obtain ⟨n, hn⟩ := Option.isSome_iff_exists.1 h
  refine congrArg Host.Outcome.next ?_
  simp only [State.seizeDone, hn]

theorem exec_clearSent_of_clear {s : State} {p : PortId} {d : Destination}
    (hp : (s.port p).phase = .clearing d) (ht : (s.port p).tx = .clear) :
    exec (.clearSent p) s = .next ((s.answerRestart p d).arrive p d) := by
  refine congrArg Host.Outcome.next ?_
  simp only [State.clearingDone, hp, ht]

theorem State.answerRestart_of_not_owed {s : State} {p : PortId} (h : (s.port p).owed ≠ .restart)
    (d : Destination) : s.answerRestart p d = s := by
  rw [State.answerRestart, if_neg h]

/-- R171: an owed RESTART is answered with the destination, and owed no longer. -/
theorem State.answerRestart_of_owed {s : State} {p : PortId} {c : MgmtCommand}
    (h : (s.port p).owed = .restart) (hc : s.agent.inExecution = some c) (d : Destination) :
    s.answerRestart p d = ({ s with
      agent := { s.agent with inExecution := none }
      ret := s.ret.answered c 0 [d.code] }).setPort p { s.port p with owed := .none } := by
  rw [State.answerRestart, if_pos h]
  exact State.deferredDone_of_held (s.setPort p { s.port p with owed := .none }) c d.code hc

/-- Settles O32: the port is READY and judges; an owed RESTART is answered before. -/
theorem clearingTowardReadyReturnsToService : Obligations.ClearingTowardReadyReturnsToService := by
  intro s p
  refine ⟨fun h => exec_seizeComplete_of_seize h, fun hp ht => ?clear⟩
  intro ready
  refine ⟨fun ho => ?quiet, fun c ho hc => ?owed⟩
  all_goals rw [exec_clearSent_of_clear hp ht]
  case quiet =>
    rw [State.answerRestart_of_not_owed (by simp [ho]), State.arrive, State.judgePort_setPort,
      Port.judge_of_ready _ _ rfl rfl]
    simp only [ready, ← ho]
  case owed =>
    rw [State.answerRestart_of_owed ho hc, State.arrive, State.judgePort_setPort,
      Port.judge_of_ready _ _ rfl rfl, State.setPort_setPort, State.setPort_port_same]
    rfl

/-- R103: a port that has told its groups of its loss, seen once its STOP is owed no longer. -/
theorem State.toldDown_setPort_owed (s : State) (p : PortId) (c : Cause) :
    (s.toldDown p c).setPort p { (s.toldDown p c).port p with owed := .none }
      = ((s.setPort p { s.port p with phase := .down c, tx := .idle, owed := .none }).requestsEvent
          [5, byte p, c.code]).memberDown p := by
  let x : Port := { s.port p with phase := .down c, tx := .idle }
  let u : State := (s.setPort p x).requestsEvent [5, byte p, c.code]
  have hport : u.port p = x := by
    rw [State.requestsEvent_port, State.setPort_port_same]
  have htold : (s.toldDown p c).port p = x := (State.memberDown_port u p p).trans hport
  have hwrite : (s.setPort p { x with owed := .none }).requestsEvent [5, byte p, c.code]
      = u.setPort p { x with owed := .none } := by
    rw [← State.setPort_setPort s p x]
    rfl
  rw [htold, hwrite]
  exact (State.memberDown_setPort (by rw [hport]; rfl) p).symm

/-- Settles O33: PORT-DOWN, the groups, and then an owed STOP; an owed RESTART ahead of them. -/
theorem aClearSentTowardDownLeavesService : Obligations.AClearSentTowardDownLeavesService := by
  intro s p cause hp ht code down
  have hcode : cause.code = code := by cases cause <;> rfl
  refine ⟨fun ho => ?quiet, fun c ho hc => ?stop, fun c ho hc => ?restart⟩
  all_goals rw [exec_clearSent_of_clear hp ht]
  case quiet =>
    rw [State.answerRestart_of_not_owed (by simp [ho]), State.arrive,
      State.goDown_of_not_owed _ _ _ (by simp [ho])]
    simp only [down, ← hcode, ← ho]
  case stop =>
    have hagent : (down s).agent = s.agent := State.memberDown_agent _ p
    have hheld : (down s).agent.inExecution = some c := by rw [hagent, hc]
    have hdown : (s.toldDown p cause).setPort p { (s.toldDown p cause).port p with owed := .none }
        = down s := by
      simp only [State.toldDown_setPort_owed, down, hcode]
    rw [State.answerRestart_of_not_owed (by simp [ho]), State.arrive, State.goDown_eq, if_pos ho, hdown,
      State.deferredDone_of_held _ _ _ hheld, hcode, hagent]
  case restart =>
    rw [State.answerRestart_of_owed ho hc, State.arrive, State.goDown_of_not_owed _ _ _ (by simp),
      State.setPort_setPort, State.setPort_port_same, hcode]
    rfl

end Sys2Proof.Machine

/-! THEOREMS. Deadlines and withdrawals (R85, R121, R124). -/

namespace Sys2Proof.Machine

/-! ### The ports of an expiry (R121) -/

/-- At most one port record names a port when no two name the same. -/
theorem filter_port_eq_find {rs : List PortRecord} (h : (rs.map PortRecord.port).Nodup) (q : PortId) :
    (rs.filter fun y => y.port == q) = (rs.find? fun y => y.port = q).toList := by
  induction rs with
  | nil => rfl
  | cons r rs ih =>
    rw [List.map_cons, List.nodup_cons] at h
    obtain ⟨hnot, hrest⟩ := h
    by_cases hr : r.port = q
    · have hnone : (rs.filter fun y => y.port == q) = [] := by
        rw [List.filter_eq_nil_iff]
        intro y hy hyq
        exact hnot (hr ▸ eq_of_beq hyq ▸ List.mem_map_of_mem hy)
      simp [hr, hnone]
    · simp [hr, ih hrest]

theorem State.expirePorts_eq (s : State) (k : Tag) (rs : List PortRecord) :
    ∃ ports, s.expirePorts k rs = s.withPorts ports := by
  induction rs generalizing s with
  | nil => exact ⟨s.ports, rfl⟩
  | cons r rs ih =>
    obtain ⟨ports, h⟩ := ih (s.setPort r.port ((s.port r.port).expire k r))
    exact ⟨ports, h⟩

/-- R121: the record with its open parts expired, before it completes. -/
def State.partsExpired (s : State) (k : Tag) (r : Transaction) : Transaction :=
  { r with parts := r.parts.map fun y => y.expired ((s.port y.port).hasStarted k) }

/-- An expiry touches the ports, one record and the entries of the return queue only. -/
theorem State.expireRecord_eq (s : State) (k : Tag) (r : Transaction) :
    ∃ ports, s.expireRecord k r
      = ((s.withPorts ports).setRecord k (some (s.partsExpired k r).closed)).withRet
        ({ s.ret with
          entries := s.ret.entries ++ (s.partsExpired k r).completionEntries k }).judged := by
  obtain ⟨ports, h⟩ := s.expirePorts_eq k r.parts
  refine ⟨ports, ?_⟩
  rw [State.expireRecord, State.complete_eq_judged, h]
  rfl

theorem exec_deadlineExpiry_of_opened {s : State} {k : Tag} {r : Transaction} (hr : s.record k = some r)
    (ho : r.state = .opened) (hd : r.deadline.isSome = true) :
    exec (.deadlineExpiry k) s = .next (s.expireRecord k r) := by
  obtain ⟨n, hn⟩ := Option.isSome_iff_exists.1 hd
  refine congrArg Host.Outcome.next ((State.onOpenRecord_of_opened hr ho _).trans ?_)
  simp only [hn]

/-! ### A withdrawal (R85) -/

theorem Port.hasStarted_iff (x : Port) (k : Tag) :
    x.hasStarted k = true ↔ (∃ z, x.onWire = some z ∧ z.link = some k)
      ∨ (∃ a, x.pendingAnswer = some a ∧ a.link = some k)
      ∨ lacksIndex (x.waitingPieces.filter (Piece.linkedTo k)) = true := by
  simp only [Port.hasStarted, startedBefore, Bool.or_eq_true, Option.any_eq_true, beq_iff_eq]
  exact or_left_comm

/-- Settles O34: the expiry goes through the port records one by one, each for its own port. -/
theorem aDeadlineExpiresTheOpenParts : Obligations.ADeadlineExpiresTheOpenParts := by
  refine ⟨fun s k r hr ho hd hdistinct => ?expiry, fun x k => ?withdrawal⟩
  case expiry =>
    refine ⟨s.expireRecord k r, exec_deadlineExpiry_of_opened hr ho hd, fun q => ?port, ?rest⟩
    case port =>
      rw [State.expireRecord, State.complete_port, State.expirePorts_port,
        filter_port_eq_find hdistinct q]
      cases r.parts.find? fun y => y.port = q with
      | none => rfl
      | some y =>
        simp only [Option.toList_some, Port.expiredBy, List.foldl_cons, List.foldl_nil, Port.expire]
        cases y.state <;> rfl
    case rest =>
      obtain ⟨ports, h⟩ := s.expireRecord_eq k r
      rw [h]
      refine ⟨⟨?_, rfl⟩, fun j hj => State.setRecord_record_ne _ _ hj, rfl, rfl, rfl, rfl⟩
      exact State.setRecord_record_same _ k _
  case withdrawal =>
    intro y waiting
    refine ⟨x.withdraw_unlinked k, rfl, ?_, x.hasStarted_iff k, rfl⟩
    simp only [y, Port.withdraw, Port.withdrawnQueue]
    cases x.onWire <;> rfl

end Sys2Proof.Machine

/-! THEOREMS. Rounds of the sync groups (R152 to R155). -/

namespace Sys2Proof.Machine

/-! ### The group of a port -/

theorem SyncGroup.armed_iff (x : SyncGroup) : x.armed = true ↔ x.mode ≠ .off := by
  simp only [SyncGroup.armed, bne_iff_ne]

/-- A port of which no armed group has it as a member is in none, or in one that is OFF. -/
theorem State.groupOf_unarmed {s : State} {p : PortId}
    (h : ∀ g, PortSet.has (s.group g).members p = true → (s.group g).mode = .off) :
    s.groupOf p = none ∨ ∃ g, s.groupOf p = some g ∧ (s.group g).armed = false := by
  cases hg : s.groupOf p with
  | none => exact .inl rfl
  | some g =>
    have hoff := h g (State.has_of_groupOf hg)
    exact .inr ⟨g, rfl, Bool.eq_false_iff.2 fun ha => (s.group g).armed_iff.1 ha hoff⟩

/-! ### A SYNC token (R152) -/

theorem State.takeSync_of_unarmed {s : State} {p : PortId}
    (h : ∀ g, PortSet.has (s.group g).members p = true → (s.group g).mode = .off) :
    s.takeSync p = s.countUnwatched := by
  rcases State.groupOf_unarmed h with hg | ⟨g, hg, ha⟩
  · simp only [State.takeSync, hg]
  · simp only [State.takeSync, hg, ha, Bool.false_eq_true, if_false]

theorem State.takeSync_of_armed {s : State} {p : PortId} {g : GroupId} (hg : s.memberOf p g)
    (ha : (s.group g).mode ≠ .off) : s.takeSync p = s.armedSync g p := by
  simp only [State.takeSync, State.groupOf_of_memberOf hg, (s.group g).armed_iff.2 ha, if_true]

/-- R151: what judging a round does, by whether it is complete. -/
theorem State.judgeRound_of_complete {s : State} {g : GroupId}
    (h : s.allPresentIn g (s.group g).reported) : s.judgeRound g = s.roundEnds g := by
  rcases s.judgeRound_cases g with ⟨_, hends⟩ | ⟨hno, _⟩
  · exact hends
  · exact absurd h hno

theorem State.judgeRound_of_open {s : State} {g : GroupId}
    (h : ¬ s.allPresentIn g (s.group g).reported) : s.judgeRound g = s := by
  rcases s.judgeRound_cases g with ⟨hyes, _⟩ | ⟨_, hsame⟩
  · exact absurd hyes h
  · exact hsame

/-- A report leaves the members and the ports as they are. -/
theorem State.allPresentIn_setGroup {s : State} {g : GroupId} {x : SyncGroup}
    (hm : x.members = (s.group g).members) :
    (s.setGroup g x).allPresentIn g ((s.setGroup g x).group g).reported
      ↔ s.allPresentIn g x.reported := by
  simp only [State.allPresentIn, State.setGroup_group_same, hm, State.setGroup_port]

/-- Settles O35: the one group of the port decides, and the round is judged after a new report. -/
theorem aSyncTokenJoinsTheRound : Obligations.ASyncTokenJoinsTheRound := by
  intro s p hr hx
  have htoken : exec (.syncToken p) s = .next (s.takeSync p) :=
    congrArg _ (State.onTileToken_of_resting hr hx _)
  refine ⟨fun hoff => ?unwatched, fun g hg ha => ?member⟩
  case unwatched =>
    rw [htoken, State.takeSync_of_unarmed hoff]
    rfl
  case member =>
    intro x joined
    rw [htoken, State.takeSync_of_armed hg ha, State.armedSync]
    have hjoined : (s.setGroup g joined).allPresentIn g ((s.setGroup g joined).group g).reported
        ↔ s.allPresentIn g joined.reported := State.allPresentIn_setGroup rfl
    refine ⟨fun hearly => ?_, fun hnew hall => ?_, fun hnew hopen => ?_⟩
    · rw [if_pos hearly]
    · rw [if_neg (Bool.eq_false_iff.1 hnew)]
      exact congrArg _ (State.judgeRound_of_complete (hjoined.2 hall))
    · rw [if_neg (Bool.eq_false_iff.1 hnew)]
      exact congrArg _ (State.judgeRound_of_open (mt hjoined.1 hopen))

/-! ### The window and the loss of a member (R154, R155) -/

theorem exec_syncWindowExpiry_of_running {s : State} {g : GroupId} (h : (s.group g).timer.isSome = true) :
    exec (.syncWindowExpiry g) s = .next (s.splitRound g) := by
  obtain ⟨n, hn⟩ := Option.isSome_iff_exists.1 h
  refine congrArg Host.Outcome.next ?_
  simp only [State.windowExpired, hn]

theorem State.memberDown_of_unarmed {s : State} {p : PortId}
    (h : ∀ g, PortSet.has (s.group g).members p = true → (s.group g).mode = .off) :
    s.memberDown p = s := by
  rcases State.groupOf_unarmed h with hg | ⟨g, hg, ha⟩
  · simp only [State.memberDown, hg]
  · simp only [State.memberDown, hg, ha, Bool.false_eq_true, if_false]

theorem State.memberDown_of_armed {s : State} {p : PortId} {g : GroupId} (hg : s.memberOf p g)
    (ha : (s.group g).mode ≠ .off) : s.memberDown p = s.judgeLoss g := by
  simp only [State.memberDown, State.groupOf_of_memberOf hg, (s.group g).armed_iff.2 ha, if_true]

/-- R155: with a present member the round is judged. -/
theorem State.judgeLoss_of_present {s : State} {g : GroupId} {q : PortId}
    (hq : PortSet.has (s.group g).members q = true) (hup : (s.port q).isDown = false) :
    s.judgeLoss g = s.judgeRound g := by
  have hsome : ¬ (s.presentMembers (s.group g).members).isEmpty = true := by
    rw [State.presentMembers_isEmpty_iff]
    intro hall
    exact absurd (hall q hq) (Bool.eq_false_iff.1 hup)
  rw [State.judgeLoss, if_neg hsome]

/-- Settles O36: a split, and the three outcomes of a loss by the present members. -/
theorem roundsEndBySplitOrLossOfAMember : Obligations.RoundsEndBySplitOrLossOfAMember := by
  refine ⟨fun s g h => ?split, fun s p => ⟨State.memberDown_of_unarmed, fun g hg ha => ?loss⟩⟩
  case split => rw [exec_syncWindowExpiry_of_running h, State.splitRound_eq]
  case loss =>
    rw [State.memberDown_of_armed hg ha]
    refine ⟨fun hdown => ?_, fun hall => ?_, fun ⟨q, hq, hup, hnot⟩ => ?_⟩
    · rw [State.judgeLoss, if_pos ((s.presentMembers_isEmpty_iff _).2 hdown), State.groupOff_eq]
    · have ⟨⟨q, hq, hup⟩, _⟩ := hall
      rw [State.judgeLoss_of_present hq hup, State.judgeRound_of_complete hall]
    · have hopen : ¬ s.allPresentIn g (s.group g).reported := fun ⟨_, hall⟩ =>
        Bool.eq_false_iff.1 hnot (hall q hq hup)
      rw [State.judgeLoss_of_present hq hup, State.judgeRound_of_open hopen]

end Sys2Proof.Machine

/-! THEOREMS. Commands refused for their code or their arguments, and INFO (R165, R167, R185). -/

namespace Sys2Proof.Machine

/-! ### Arguments of another length (R165 step 2) -/

section
variable {args : List Byte}

theorem noArgs_of_length (h : args.length ≠ 0) : noArgs args = none := by
  match args, h with
  | _ :: _, _ => rfl

theorem onePort_of_length (h : args.length ≠ 1) : onePort args = none := by
  unfold onePort
  split
  next => exact absurd rfl h
  next => rfl

theorem oneGroup_of_length (h : args.length ≠ 1) : oneGroup args = none := by
  unfold oneGroup
  split
  next => exact absurd rfl h
  next => rfl

theorem oneTag_of_length (h : args.length ≠ 1) : oneTag args = none := by
  unfold oneTag
  split
  next => exact absurd rfl h
  next => rfl

theorem oneStream_of_length (h : args.length ≠ 1) : oneStream args = none := by
  unfold oneStream
  split
  next => exact absurd rfl h
  next => rfl

theorem readEntryArgs_of_length (h : args.length ≠ 2) : readEntryArgs args = none := by
  unfold readEntryArgs
  split
  next => exact absurd rfl h
  next => rfl

theorem counterBlockArgs_of_length (h : args.length ≠ 2) : counterBlockArgs args = none := by
  unfold counterBlockArgs
  split
  next => exact absurd rfl h
  next => rfl

theorem portSetArgs_of_length (h : args.length ≠ 4) : portSetArgs args = none := by
  unfold portSetArgs
  split
  next => exact absurd rfl h
  next => rfl

theorem returnSetArgs_of_length (h : args.length ≠ 4) : returnSetArgs args = none := by
  unfold returnSetArgs
  split
  next => exact absurd rfl h
  next => rfl

theorem syncSetArgs_of_length (h : args.length ≠ 5) : syncSetArgs args = none := by
  unfold syncSetArgs
  split
  next => exact absurd rfl h
  next => rfl

end

/-! ### A row that judges its arguments first -/

section
variable {s : State} {c : MgmtCommand} {rest : List MgmtCommand} {code : Byte} {args : List Byte}
  {i : Instr} {name : CommandName} {α : Type} {parse : List Byte → Option α}
  {go : MgmtCommand → State → α → State}

/-- What the row of the agent's next command does when its arguments are `a`. -/
theorem exec_of_args {a : α}
    (hi : exec i s = .next (s.execute name fun c u => withArgs c (parse c.arguments) u (go c u)))
    (h : s.offers c rest) (hc : c.payload = code :: args) (hn : commandName (code :: args) = name)
    (hparse : parse args = some a) :
    exec i s = .next (go c (s.withAgent { queue := rest, inExecution := none }) a) := by
  have hargs : c.arguments = args := by rw [MgmtCommand.arguments, hc, List.tail_cons]
  rw [hi, State.execute_of_named h (hc ▸ hn), hargs, hparse]
  rfl

/-- Arguments out of length or range are answered BAD-ARG. -/
theorem exec_of_badArgs
    (hi : exec i s = .next (s.execute name fun c u => withArgs c (parse c.arguments) u (go c u)))
    (h : s.offers c rest) (hc : c.payload = code :: args) (hn : commandName (code :: args) = name)
    (hparse : parse args = none) : exec i s = .next (s.taken c rest 3 []) := by
  have hargs : c.arguments = args := by rw [MgmtCommand.arguments, hc, List.tail_cons]
  rw [hi, State.execute_of_named h (hc ▸ hn), hargs, hparse]
  rfl

end

/-- R165 step 1: the codes that name no command. -/
theorem commandName_of_unknown {code : Byte} (h : code = 0 ∨ 0x12 ≤ code.toNat) (args : List Byte) :
    commandName (code :: args) = .unknown := by
  obtain rfl | hle := h
  · rfl
  · have hcode : (commandCode (code :: args)).toNat = code.toNat := rfl
    unfold commandName
    rw [hcode]
    split <;> try omega
    rfl

/-- Settles O37: the code names the row, and each row looks at the length of its arguments first. -/
theorem wrongCodesAndLengthsAreAnsweredOnly : Obligations.WrongCodesAndLengthsAreAnsweredOnly := by
  intro s c rest code args h hc
  refine ⟨fun hcode => ?unknown, fun hcode hnil => ?info, fun i n hmem hl => ?length⟩
  case unknown =>
    have hn : commandName c.payload = .unknown := by rw [hc, commandName_of_unknown hcode]
    exact congrArg _ (State.execute_of_named h hn runUnknown)
  case info =>
    subst hcode hnil
    exact exec_of_args (i := .info) (parse := noArgs) rfl h hc rfl rfl
  case length =>
    simp only [List.mem_cons, Prod.mk.injEq, List.not_mem_nil, or_false] at hmem
    obtain ⟨rfl, rfl, rfl⟩ | ⟨rfl, rfl, rfl⟩ | ⟨rfl, rfl, rfl⟩ | ⟨rfl, rfl, rfl⟩ | ⟨rfl, rfl, rfl⟩
      | ⟨rfl, rfl, rfl⟩ | ⟨rfl, rfl, rfl⟩ | ⟨rfl, rfl, rfl⟩ | ⟨rfl, rfl, rfl⟩ | ⟨rfl, rfl, rfl⟩
      | ⟨rfl, rfl, rfl⟩ | ⟨rfl, rfl, rfl⟩ | ⟨rfl, rfl, rfl⟩ | ⟨rfl, rfl, rfl⟩ | ⟨rfl, rfl, rfl⟩ := hmem
    · exact exec_of_badArgs rfl h hc rfl (noArgs_of_length hl)
    · exact exec_of_badArgs rfl h hc rfl (oneStream_of_length hl)
    · exact exec_of_badArgs rfl h hc rfl (noArgs_of_length hl)
    · exact exec_of_badArgs rfl h hc rfl (readEntryArgs_of_length hl)
    · exact exec_of_badArgs rfl h hc rfl (noArgs_of_length hl)
    · exact exec_of_badArgs rfl h hc rfl (portSetArgs_of_length hl)
    · exact exec_of_badArgs rfl h hc rfl (onePort_of_length hl)
    · exact exec_of_badArgs rfl h hc rfl (onePort_of_length hl)
    · exact exec_of_badArgs rfl h hc rfl (onePort_of_length hl)
    · exact exec_of_badArgs rfl h hc rfl (syncSetArgs_of_length hl)
    · exact exec_of_badArgs rfl h hc rfl (oneGroup_of_length hl)
    · exact exec_of_badArgs rfl h hc rfl (returnSetArgs_of_length hl)
    · exact exec_of_badArgs rfl h hc rfl (oneTag_of_length hl)
    · exact exec_of_badArgs rfl h hc rfl (counterBlockArgs_of_length hl)
    · exact exec_of_badArgs rfl h hc rfl (counterBlockArgs_of_length hl)

end Sys2Proof.Machine

/-! THEOREMS. STAGE-ENTRY, the commits, PORT-SET, RETURN-SET and COUNTERS-CLEAR (R30, R37, R39, R44, R108, R146,
R173, R177). -/

namespace Sys2Proof.Machine

/-! ### STAGE-ENTRY (R30) -/

theorem stageEntryArgs_cons (id : Byte) (entry : List Byte) :
    stageEntryArgs (id :: entry)
      = if entryLengthOk entry then (streamArg id).map fun n => (n, entry) else none := rfl

theorem stageEntryArgs_of_bad {id : Byte} {entry : List Byte}
    (h : 31 ≤ id.toNat ∨ entryLengthOk entry = false) : stageEntryArgs (id :: entry) = none := by
  rw [stageEntryArgs_cons]
  obtain hid | hentry := h
  · rw [streamArg_of_le hid, Option.map_none, ite_self]
  · rw [hentry, if_neg (by simp)]

theorem stageEntryArgs_of_good {id : Byte} {entry : List Byte} (hid : id.toNat < 31)
    (hentry : entryLengthOk entry = true) :
    stageEntryArgs (id :: entry) = some (⟨id.toNat, hid⟩, entry) := by
  rw [stageEntryArgs_cons, streamArg_of_lt hid, Option.map_some, if_pos hentry]

theorem State.stageOffered_of_pending {s : State} (h : s.table.commit = .pendingFrame) (c : MgmtCommand)
    (id : Fin 31) (entry : List Byte) : s.stageOffered c id entry = s.reply c .busy [] := by
  rw [State.stageOffered, unlessPending_eq, if_pos h]

theorem State.stageOffered_of_bad {s : State} (h : s.table.commit = .none) {entry : List Byte}
    (he : judgeEntry entry = none) (c : MgmtCommand) (id : Fin 31) :
    s.stageOffered c id entry = s.reply c .badEntry [] := by
  simp only [State.stageOffered, unlessPending, h, he]

theorem State.stageOffered_of_good {s : State} (h : s.table.commit = .none) {entry : List Byte}
    {e : StreamEntry} (he : judgeEntry entry = some e) (c : MgmtCommand) (id : Fin 31) :
    s.stageOffered c id entry = (s.withTable (s.table.stage id e)).reply c .done [] := by
  simp only [State.stageOffered, unlessPending, h, he]

/-- Settles O38: the arguments, then the commit state, then the entry decide. -/
theorem stageEntryReplacesOneStagedEntry : Obligations.StageEntryReplacesOneStagedEntry := by
  intro s c rest id entry h
  refine ⟨fun hc => exec_of_badArgs (parse := stageEntryArgs) rfl h hc rfl rfl, fun hc => ?_⟩
  let u := s.withAgent { queue := rest, inExecution := none }
  have hrow (hid : id.toNat ≤ 30) (hentry : entryLengthOk entry = true) :
      exec .stageEntry s = .next (u.stageOffered c ⟨id.toNat, Nat.lt_succ_of_le hid⟩ entry) :=
    exec_of_args (i := .stageEntry) (parse := stageEntryArgs) rfl h hc rfl
      (stageEntryArgs_of_good (Nat.lt_succ_of_le hid) hentry)
  refine ⟨fun hbad => ?bad, fun hid hentry hp => ?busy, fun hid hentry hn he => ?badEntry,
    fun e hid hentry hn he => ?staged⟩
  case bad => exact exec_of_badArgs rfl h hc rfl (stageEntryArgs_of_bad hbad)
  case busy =>
    rw [hrow hid hentry]
    exact congrArg _ (State.stageOffered_of_pending (s := u) hp c _ entry)
  case badEntry =>
    rw [hrow hid hentry]
    exact congrArg _ (State.stageOffered_of_bad (s := u) hn he c _)
  case staged =>
    rw [hrow hid hentry, State.stageOffered_of_good (s := u) hn he, StreamTable.stage_eq]
    rfl

/-! ### The commits (R37, R39, R44) -/

/-- The argument of a COMMIT NOW. -/
def commitNowArgs (args : List Byte) : Option Unit := if args = [0] then some () else none

/-- The argument of a COMMIT AT-FRAME. -/
def commitAtFrameArgs (args : List Byte) : Option Unit := if args = [1] then some () else none

/-- The row COMMIT_NOW judges this argument. -/
theorem runCommitNow_eq : runCommitNow = fun c s =>
    withArgs c (commitNowArgs c.arguments) s fun _ =>
      unlessPending c s ((s.withTable { s.table with active := s.table.staged }).reply c .done []) :=
  rfl

/-- The row COMMIT_AT_FRAME judges this argument. -/
theorem runCommitAtFrame_eq : runCommitAtFrame = fun c s =>
    withArgs c (commitAtFrameArgs c.arguments) s fun _ =>
      unlessPending c s ((s.withTable { s.table with commit := .pendingFrame }).reply c .pending []) :=
  rfl

/-- R165: a COMMIT whose form is not 1 is the row COMMIT_NOW (log 6). -/
theorem commandName_commitNow {args : List Byte} (h : args.head? ≠ some 1) :
    commandName (0x06 :: args) = .commitNow := by
  have hform : (0x06 :: args)[1]? ≠ some 1 := by
    rwa [List.getElem?_cons_succ, ← List.head?_eq_getElem?]
  exact if_neg hform

theorem exec_commitCancel {s : State} {c : MgmtCommand} {rest : List MgmtCommand}
    (h : s.offers c rest) (hc : c.payload = [0x07]) : exec .commitCancel s = .next
      (if s.table.commit = .pendingFrame then
        (s.withTable { s.table with commit := .none }).taken c rest 0 []
      else s.taken c rest 5 []) := by
  refine (exec_of_args (i := .commitCancel) (parse := noArgs) rfl h hc rfl rfl).trans ?_
  cases hp : s.table.commit with
  | pendingFrame => simp [State.withAgent, hp]; rfl
  | none => simp [State.withAgent, hp]; rfl

/-- Settles O41: the form and the commit state decide. -/
theorem commitsAreTakenMadePendingOrCancelled : Obligations.CommitsAreTakenMadePendingOrCancelled := by
  intro s c rest h
  refine ⟨fun hc => ?now, fun hc => ?atFrame, fun hc => exec_commitCancel h hc,
    fun args hc hargs hform => ?badNow, fun args hc hargs => ?badAtFrame⟩
  case now =>
    refine (exec_of_args (i := .commitNow) (parse := commitNowArgs) rfl h hc rfl rfl).trans ?_
    exact congrArg _ (unlessPending_of_taken s c rest _)
  case atFrame =>
    refine (exec_of_args (i := .commitAtFrame) (parse := commitAtFrameArgs) rfl h hc rfl rfl).trans ?_
    exact congrArg _ (unlessPending_eq c _ _)
  case badNow =>
    exact exec_of_badArgs (parse := commitNowArgs) rfl h hc (commandName_commitNow hform) (if_neg hargs)
  case badAtFrame =>
    have hno : commitAtFrameArgs (1 :: args) = none := if_neg (by simpa using hargs)
    exact exec_of_badArgs (parse := commitAtFrameArgs) rfl h hc rfl hno

/-! ### PORT-SET (R108, R169) -/

theorem portSetArgs_of_good {n t1 t0 limit : Byte} {p : PortId} (hp : n.toNat = p.val)
    (h : 10 ≤ pair t1 t0 ∧ pair t1 t0 ≤ 50000 ∧ 1 ≤ limit.toNat ∧ limit.toNat ≤ 7) :
    portSetArgs [n, t1, t0, limit]
      = some { port := p, answerTimeout := pair t1 t0, failureLimit := limit.toNat } := by
  simp only [portSetArgs, portArg_of_eq hp, if_pos h]

theorem portSetArgs_of_bad {n t1 t0 limit : Byte}
    (h : 4 ≤ n.toNat
      ∨ ¬ (10 ≤ pair t1 t0 ∧ pair t1 t0 ≤ 50000 ∧ 1 ≤ limit.toNat ∧ limit.toNat ≤ 7)) :
    portSetArgs [n, t1, t0, limit] = none := by
  simp only [portSetArgs]
  obtain hn | hbad := h
  · rw [portArg_of_le hn]
  · split
    next => rw [if_neg hbad]
    next => rfl

/-- Settles O43: all three arguments in range, or BAD-ARG. -/
theorem portSetChangesTwoSettings : Obligations.PortSetChangesTwoSettings := by
  intro s c rest n t1 t0 limit h hc timeout
  refine ⟨fun p hp hlow hhigh hone hseven => ?good, fun hbad => ?bad⟩
  case good =>
    exact exec_of_args (i := .portSet) (parse := portSetArgs) rfl h hc rfl
      (portSetArgs_of_good hp ⟨hlow, hhigh, hone, hseven⟩)
  case bad =>
    have hrange : 4 ≤ n.toNat
        ∨ ¬ (10 ≤ pair t1 t0 ∧ pair t1 t0 ≤ 50000 ∧ 1 ≤ limit.toNat ∧ limit.toNat ≤ 7) := by
      simp only [pair]
      omega
    exact exec_of_badArgs (parse := portSetArgs) rfl h hc rfl (portSetArgs_of_bad hrange)

/-! ### RETURN-SET (R146, R173) -/

theorem highBitsClear_iff (b : Byte) : highBitsClear b = true ↔ b.toNat < 16 := by
  simp only [highBitsClear, decide_eq_true_eq]

/-- Settles O47: the three values are judged together. -/
theorem returnSetTakesAllThreeValuesOrNone : Obligations.ReturnSetTakesAllThreeValuesOrNone := by
  intro s c rest budget mask d1 d0 h hc deadline good
  have hgood : good ↔ 1 ≤ budget.toNat ∧ budget.toNat ≤ 32 ∧ highBitsClear mask = true
      ∧ pair d1 d0 ≤ 1000 := by
    rw [highBitsClear_iff]
    exact Iff.rfl
  refine ⟨fun hall => ?all, fun hnot => ?none⟩
  case all =>
    have hargs : returnSetArgs [budget, mask, d1, d0]
        = some { budget := budget.toNat, mask := maskOf mask, deadlineMs := pair d1 d0 } :=
      if_pos (hgood.1 hall)
    exact exec_of_args (i := .returnSet) (parse := returnSetArgs) rfl h hc rfl hargs
  case none =>
    have hargs : returnSetArgs [budget, mask, d1, d0] = none := if_neg (mt hgood.2 hnot)
    exact exec_of_badArgs (parse := returnSetArgs) rfl h hc rfl hargs

/-! ### COUNTERS-CLEAR (R177) -/

/-- R177: the counts of a block that has been cleared. -/
theorem State.countsOf_clearCounts_same (s : State) (b : CounterBlock) :
    ∀ x ∈ (s.clearCounts b).countsOf b, x = 0 := by
  have hzeros {l : List Count} (n : Nat) (h : l = List.replicate n 0) : ∀ x ∈ l, x = 0 :=
    fun _ hx => List.eq_of_mem_replicate (h ▸ hx)
  cases b with
  | upstream => exact hzeros 8 rfl
  | stream n =>
    have hset : (s.clearCounts (.stream n)).ingress.streams[n]
        = { admitted := 0, refused := 0, unmappedLines := 0 } := Vector.getElem_set_self n.isLt
    exact hzeros 3 (congrArg StreamCounts.toList hset)
  | refusals => exact hzeros 9 rfl
  | port p =>
    have hset : ((s.clearCounts (.port p)).port p).counts = .zero :=
      congrArg Port.counts (s.setPort_port_same p _)
    exact hzeros 9 (congrArg PortCounts.toList hset)
  | ret => exact hzeros 3 rfl
  | sync => exact hzeros 13 rfl

theorem State.countPort_port_ne (s : State) {p q : PortId} (h : q ≠ p) (f : PortCounts → PortCounts) :
    (s.countPort p f).port q = s.port q := s.setPort_port_ne _ h

/-- R177: the counts of the other blocks. -/
theorem State.countsOf_clearCounts_other (s : State) {b d : CounterBlock} (h : d ≠ b) :
    (s.clearCounts b).countsOf d = s.countsOf d := by
  cases b with
  | upstream =>
    cases d
    case upstream => exact absurd rfl h
    all_goals rfl
  | stream n =>
    cases d
    case stream m =>
      have hne : n.val ≠ m.val := fun e => h (congrArg CounterBlock.stream (Fin.ext e.symm))
      exact congrArg StreamCounts.toList (Vector.getElem_set_ne n.isLt m.isLt hne)
    all_goals rfl
  | refusals =>
    cases d
    case refusals => exact absurd rfl h
    all_goals rfl
  | port p =>
    cases d
    case port q =>
      have hne : q ≠ p := fun e => h (congrArg CounterBlock.port e)
      exact congrArg (fun x : Port => x.counts.toList) (s.countPort_port_ne hne _)
    all_goals rfl
  | ret =>
    cases d
    case ret => exact absurd rfl h
    all_goals rfl
  | sync =>
    cases d
    case sync => exact absurd rfl h
    all_goals rfl

/-- R177: clearing counts touches the counts of the four blocks and of ingress only. -/
theorem State.clearCounts_keeps (s : State) (b : CounterBlock) :
    (s.clearCounts b).table = s.table ∧ (s.clearCounts b).txns = s.txns
      ∧ (s.clearCounts b).agent = s.agent ∧ (s.clearCounts b).pending = s.pending
      ∧ { (s.clearCounts b).upstream with counts := s.upstream.counts } = s.upstream
      ∧ { (s.clearCounts b).ret with counts := s.ret.counts } = s.ret := by
  cases b <;> exact ⟨rfl, rfl, rfl, rfl, rfl, rfl⟩

theorem State.clearCounts_port (s : State) (b : CounterBlock) (p : PortId) :
    { (s.clearCounts b).port p with counts := (s.port p).counts } = s.port p := by
  cases b
  case port q =>
    by_cases h : p = q
    · subst h
      simp only [State.clearCounts, State.countPort, State.setPort_port_same]
    · simp only [State.clearCounts, s.countPort_port_ne h]
  all_goals rfl

theorem State.clearCounts_group (s : State) (b : CounterBlock) (g : GroupId) :
    { (s.clearCounts b).group g with
      rounds := (s.group g).rounds, splits := (s.group g).splits
      earlySyncs := (s.group g).earlySyncs } = s.group g := by
  cases b
  case sync =>
    have hzero : (s.clearCounts .sync).group g = (s.group g).countsZero :=
      forFour_getElem (fun g => (s.group g).countsZero) g
    rw [hzero]
    rfl
  all_goals rfl

/-- Settles O48: the arguments name the block, and the frame follows block by block. -/
theorem countersClearZeroesOneBlock : Obligations.CountersClearZeroesOneBlock := by
  intro s c rest args h hc
  refine ⟨fun hargs => exec_of_badArgs (parse := counterBlockArgs) rfl h hc rfl hargs,
    fun b hargs => ⟨s.clearCounts b, ?_, s.countsOf_clearCounts_same b,
      fun d hd => s.countsOf_clearCounts_other hd, ?_⟩⟩
  · refine (exec_of_args (i := .countersClear) (parse := counterBlockArgs) rfl h hc rfl hargs).trans ?_
    rw [State.clearCounts_withAgent]
    rfl
  · obtain ⟨htable, htxns, hagent, hpending, hupstream, hret⟩ := s.clearCounts_keeps b
    exact ⟨htable, htxns, hagent, hpending, hupstream, hret, s.clearCounts_port b, s.clearCounts_group b⟩

end Sys2Proof.Machine

/-! THEOREMS. PORT-STOP, PORT-RESTART and SYNC-SET (R105 to R107, R149, R157, R164, R170 to R172). -/

namespace Sys2Proof.Machine

/-! ### A port that leaves or returns to service (R105 to R107) -/

theorem Port.live_of_serving {x : Port} (hc : ∀ d, x.phase ≠ .clearing d)
    (hd : ∀ cause, x.phase ≠ .down cause) : x.live = true :=
  x.live_iff.2 fun cause => ⟨hd cause, hc _⟩

theorem Port.live_of_clearing {x : Port} (h : x.phase = .clearing .ready) : x.live = true := by
  simp only [Port.live, h]

theorem Port.not_live_of_down {x : Port} {cause : Cause} (h : x.phase = .down cause) :
    x.live = false := by
  simp only [Port.live, h]

theorem Port.not_live_of_clearing {x : Port} {cause : Cause} (h : x.phase = .clearing (.down cause)) :
    x.live = false := by
  simp only [Port.live, h]

theorem State.stopPort_of_live {s : State} {p : PortId} (h : (s.port p).live = true) :
    s.stopPort p = (s.setPort p { (s.port p).swept.clearToward (.down .stopped) with
      owed := .stop }).handNotices p ((s.port p).notices .stop) := by
  simp only [State.stopPort, h, if_true, Port.stopped, Port.flushed_eq]

theorem State.stopPort_of_not_live {s : State} {p : PortId} (h : (s.port p).live = false) :
    s.stopPort p = s.setPort p { s.port p with owed := .stop } := by
  simp only [State.stopPort, h, Bool.false_eq_true, if_false]

theorem State.restartPort_of_live {s : State} {p : PortId} (h : (s.port p).live = true) :
    s.restartPort p = (s.setPort p { (s.port p).swept.clearToward .ready with
      owed := .restart }).handNotices p ((s.port p).notices .restart) := by
  simp only [State.restartPort, h, if_true, Port.restarted, Port.flushed_eq]

theorem State.restartPort_of_not_live {s : State} {p : PortId} (h : (s.port p).live = false) :
    s.restartPort p = s.setPort p { (s.port p).clearToward .ready with
      failures := 0, owed := .restart } := by
  simp only [State.restartPort, h, Bool.false_eq_true, if_false, Port.revived]

/-! ### PORT-STOP (R170) -/

section
variable {s : State} {c : MgmtCommand} {rest : List MgmtCommand} {n : Byte} {p : PortId}

theorem exec_portStop_of_serving (h : s.offers c rest) (hc : c.payload = [0x09, n])
    (hp : n.toNat = p.val) (hd : ∀ cause, (s.port p).phase ≠ .down cause) :
    exec .portStop s = .next ((s.held c rest).stopPort p) := by
  refine (exec_of_args (i := .portStop) (parse := onePort) rfl h hc rfl (portArg_of_eq hp)).trans ?_
  refine congrArg Host.Outcome.next ?_
  unfold State.stopCommand
  split
  next cause hcause => exact absurd hcause (hd cause)
  all_goals rfl

theorem exec_portStop_of_down {cause : Cause} (h : s.offers c rest) (hc : c.payload = [0x09, n])
    (hp : n.toNat = p.val) (hd : (s.port p).phase = .down cause) :
    exec .portStop s = .next (s.taken c rest 0 [cause.code]) := by
  refine (exec_of_args (i := .portStop) (parse := onePort) rfl h hc rfl (portArg_of_eq hp)).trans ?_
  refine congrArg Host.Outcome.next ?_
  have hd' : ((s.withAgent { queue := rest, inExecution := none }).port p).phase = .down cause := hd
  simp only [State.stopCommand, hd']
  rfl

theorem exec_portRestart_of_port (h : s.offers c rest) (hc : c.payload = [0x0A, n])
    (hp : n.toNat = p.val) : exec .portRestart s = .next ((s.held c rest).restartPort p) :=
  exec_of_args (i := .portRestart) (parse := onePort) rfl h hc rfl (portArg_of_eq hp)

end

/-- Settles O44: the state of the port decides. -/
theorem portStopTakesThePortOutOfService : Obligations.PortStopTakesThePortOutOfService := by
  intro s c rest n h hc
  refine ⟨fun hn => exec_of_badArgs (parse := onePort) rfl h hc rfl (portArg_of_le hn), fun p hp => ?_⟩
  intro x stopping
  have hlive (hl : x.live = true) : (s.held c rest).stopPort p
      = ((s.held c rest).setPort p { x.swept.clearToward (.down .stopped) with
          owed := .stop }).handNotices p (x.notices .stop) := State.stopPort_of_live hl
  refine ⟨fun cause hd => ?down, fun cause hd => ?goesOn, fun hd => ?clearing, fun hno hup => ?serving⟩
  case down =>
    rw [exec_portStop_of_down h hc hp hd]
    cases cause <;> rfl
  case goesOn =>
    rw [exec_portStop_of_serving h hc hp (by simp [x, hd])]
    exact congrArg _ (State.stopPort_of_not_live (s := s.held c rest) (Port.not_live_of_clearing hd))
  case clearing =>
    rw [exec_portStop_of_serving h hc hp (by simp [x, hd]), hlive (Port.live_of_clearing hd),
      Port.clearToward_of_clearing (x := x.swept) hd]
  case serving =>
    rw [exec_portStop_of_serving h hc hp hup, hlive (Port.live_of_serving hno hup),
      Port.clearToward_of_other (x := x.swept) hno]
    rfl

/-- Settles O45: as for a stop, but toward READY. -/
theorem portRestartClearsTowardReady : Obligations.PortRestartClearsTowardReady := by
  intro s c rest n h hc
  refine ⟨fun hn => exec_of_badArgs (parse := onePort) rfl h hc rfl (portArg_of_le hn), fun p hp => ?_⟩
  intro x toReady entering
  rw [exec_portRestart_of_port h hc hp]
  have hlive (hl : x.live = true) : (s.held c rest).restartPort p
      = ((s.held c rest).setPort p { x.swept.clearToward .ready with
          owed := .restart }).handNotices p (x.notices .restart) := State.restartPort_of_live hl
  have hdead (hl : x.live = false) : (s.held c rest).restartPort p
      = (s.held c rest).setPort p { x.clearToward .ready with failures := 0, owed := .restart } :=
    State.restartPort_of_not_live hl
  refine ⟨fun cause hd => ?down, fun cause hd => ?goesOn, fun hd => ?clearing, fun hno hup => ?serving⟩
  case down =>
    rw [hdead (Port.not_live_of_down hd), Port.clearToward_of_other (by simp [hd])]
  case goesOn =>
    rw [hdead (Port.not_live_of_clearing hd), Port.clearToward_of_clearing hd]
  case clearing =>
    rw [hlive (Port.live_of_clearing hd), Port.clearToward_of_clearing (x := x.swept) hd]
  case serving =>
    rw [hlive (Port.live_of_serving hno hup), Port.clearToward_of_other (x := x.swept) hno]
    rfl

end Sys2Proof.Machine

/-! THEOREMS. SYNC-SET (R149, R150, R157, R172). -/

namespace Sys2Proof.Machine

/-! ### The arguments (R157, R185) -/

theorem groupArg_of_eq {b : Byte} {g : GroupId} (h : b.toNat = g.val) : groupArg b = some g :=
  portArg_of_eq h

theorem groupArg_of_le {b : Byte} (h : 4 ≤ b.toNat) : groupArg b = none := portArg_of_le h

theorem modeArg_code (mode : GroupMode) : modeArg mode.code = some mode := by
  cases mode <;> rfl

theorem modeArg_of_le {b : Byte} (h : 3 ≤ b.toNat) : modeArg b = none := by
  have hne (k : Byte) (hk : k.toNat < 3) : b ≠ k := fun e => by
    rw [e] at h
    omega
  simp only [modeArg, hne 0 (by decide), hne 1 (by decide), hne 2 (by decide), if_false]

theorem portSetOf_of_toNat {b : Byte} {m : PortSet} (h : b.toNat = m.toNat) : portSetOf b = m := by
  refine BitVec.eq_of_toNat_eq ?_
  have hlt : m.toNat < 2 ^ 4 := m.isLt
  simp only [portSetOf, BitVec.truncate_eq_setWidth, BitVec.toNat_setWidth, h]
  exact Nat.mod_eq_of_lt hlt

theorem syncSetArgs_of_bad {n m b w1 w0 : Byte}
    (h : 4 ≤ n.toNat ∨ 16 ≤ m.toNat ∨ 3 ≤ b.toNat ∨ pair w1 w0 = 0) :
    syncSetArgs [n, m, b, w1, w0] = none := by
  have hrange : groupArg n = none ∨ modeArg b = none ∨ ¬ (highBitsClear m = true ∧ 1 ≤ pair w1 w0) := by
    obtain hn | hm | hb | hw := h
    · exact .inl (groupArg_of_le hn)
    · refine .inr (.inr fun ⟨hclear, _⟩ => ?_)
      rw [highBitsClear_iff] at hclear
      omega
    · exact .inr (.inl (modeArg_of_le hb))
    · exact .inr (.inr fun ⟨_, hone⟩ => by omega)
  simp only [syncSetArgs]
  split
  next hg hmode =>
    obtain hno | hno | hno := hrange
    · rw [hg] at hno
      cases hno
    · rw [hmode] at hno
      cases hno
    · rw [if_neg hno]
  next => rfl

theorem syncSetArgs_of_good {n m w1 w0 : Byte} {group : GroupId} {members : PortSet} {mode : GroupMode}
    (hn : n.toNat = group.val) (hm : m.toNat = members.toNat) (hw : 1 ≤ pair w1 w0) :
    syncSetArgs [n, m, mode.code, w1, w0]
      = some { group := group, members := members, mode := mode, window := pair w1 w0 } := by
  have hclear : highBitsClear m = true := by
    have hlt : members.toNat < 2 ^ 4 := members.isLt
    rw [highBitsClear_iff, hm]
    exact hlt
  simp only [syncSetArgs, groupArg_of_eq hn, modeArg_code, portSetOf_of_toNat hm]
  exact if_pos ⟨hclear, hw⟩

/-! ### The conditions beyond the ranges (R149, R157) -/

/-- Two port sets meet exactly when they share a port. -/
theorem PortSet.and_ne_zero_iff (m n : PortSet) :
    m &&& n ≠ 0 ↔ ∃ p, PortSet.has m p = true ∧ PortSet.has n p = true := by
  refine ⟨fun hne => ?_, fun ⟨p, hm, hn⟩ hzero => ?_⟩
  · by_contra hno
    refine hne (BitVec.eq_of_getLsbD_eq fun i hi => ?_)
    have hnot : ¬ (m.getLsbD i && n.getLsbD i) = true := by
      rw [Bool.and_eq_true]
      exact fun hboth => hno ⟨⟨i, hi⟩, hboth⟩
    rw [BitVec.getLsbD_and, Bool.eq_false_iff.2 hnot]
    exact (BitVec.getLsbD_zero (w := 4)).symm
  · have hbit : (m &&& n).getLsbD p.val = true := by
      rw [BitVec.getLsbD_and, Bool.and_eq_true]
      exact ⟨hm, hn⟩
    rw [hzero] at hbit
    simp at hbit

theorem State.syncSetBad_iff (s : State) (a : SyncSettings) :
    s.syncSetBad a = true ↔ (∃ g p, g ≠ a.group ∧ PortSet.has (s.group g).members p = true
        ∧ PortSet.has a.members p = true) ∨ (a.mode ≠ .off ∧ a.members = 0) := by
  have htakes : s.takesMember a = true ↔ ∃ g p, g ≠ a.group
      ∧ PortSet.has (s.group g).members p = true ∧ PortSet.has a.members p = true := by
    simp only [State.takesMember, List.any_eq_true, mem_allGroups, true_and, Bool.and_eq_true,
      bne_iff_ne, PortSet.and_ne_zero_iff, exists_and_left]
  rw [State.syncSetBad, Bool.or_eq_true, htakes, Bool.and_eq_true, bne_iff_ne, beq_iff_eq]

/-! ### The group with its settings (R157) -/

theorem State.setSyncGroup_port (s : State) (a : SyncSettings) (p : PortId) :
    (s.setSyncGroup a).port p = s.port p := by
  rw [State.setSyncGroup_eq]
  split <;> rfl

theorem State.goesOff_iff (s : State) (a : SyncSettings) :
    s.goesOff a = true
      ↔ a.mode ≠ .off ∧ ∀ p, PortSet.has a.members p = true → (s.port p).isDown = true := by
  rw [State.goesOff, Bool.and_eq_true, bne_iff_ne, State.presentMembers_isEmpty_iff]

/-- R157: the group takes its settings, and goes OFF with its event when it wants for present members. -/
theorem State.setSyncGroup_eq_requests (s : State) (a : SyncSettings) :
    s.setSyncGroup a =
      (let base := s.setGroup a.group { s.group a.group with
        members := a.members, mode := a.mode, window := a.window, reported := 0, timer := none }
      if a.mode ≠ .off ∧ ∀ p, PortSet.has a.members p = true → (s.port p).isDown = true then
        (base.requestsEvent [4, byte a.group]).setGroup a.group { base.group a.group with mode := .off }
      else base) := by
  rw [State.setSyncGroup_eq]
  refine if_congr (s.goesOff_iff a) ?_ rfl
  rw [State.emit_eq, State.setGroup_group_same]
  exact ((s.requestsEvent [4, byte a.group]).setGroup_setGroup a.group _ _).symm

theorem State.syncSet_port (s : State) (a : SyncSettings) (p : PortId) :
    ((s.setSyncGroup a).tellWatches s).port p
      = if (s.setSyncGroup a).wanted p = s.wanted p then s.port p
        else (s.port p).judge ((s.setSyncGroup a).wanted p) := by
  rw [State.tellWatches_port, State.setSyncGroup_port]

@[simp] theorem State.taken_port (s : State) (c : MgmtCommand) (rest : List MgmtCommand) (status : Byte)
    (result : List Byte) (p : PortId) : (s.taken c rest status result).port p = s.port p := rfl

/-- Telling the ports touches the ports only, whatever is answered after it. -/
theorem State.tellWatches_taken (s b : State) (c : MgmtCommand) (rest : List MgmtCommand)
    (ports : Vector Port 4) :
    { (s.tellWatches b).taken c rest 0 [] with ports := ports }
      = ({ s with ports := ports }).taken c rest 0 [] := by
  obtain ⟨_, h⟩ := s.tellWatches_keeps b
  rw [h]
  rfl

/-- R150, R157: what a SYNC-SET with good arguments does, its answer included. -/
theorem exec_syncSet_of_good {s : State} {c : MgmtCommand} {rest : List MgmtCommand} {args : List Byte}
    {a : SyncSettings} (h : s.offers c rest) (hc : c.payload = 0x0C :: args)
    (ha : syncSetArgs args = some a) : exec .syncSet s = .next
      (if s.syncSetBad a then s.taken c rest 3 []
       else ((s.setSyncGroup a).tellWatches s).taken c rest 0 []) := by
  refine (exec_of_args (i := .syncSet) (parse := syncSetArgs) rfl h hc rfl ha).trans ?_
  have hbad : (s.withAgent { queue := rest, inExecution := none }).syncSetBad a = s.syncSetBad a := rfl
  have hwanted (p : PortId) :
      (s.withAgent { queue := rest, inExecution := none }).wanted p = s.wanted p := rfl
  rewrite [hbad, State.setSyncGroup_withAgent, State.tellWatches_withAgent,
    State.tellWatches_congr _ hwanted, State.reply_of_taken, State.reply_of_taken]
  rfl

/-- Settles O46: the arguments, then the conditions of R149 and R157; the group is set, and the ports whose
wish to watch changed judge. -/
theorem syncSetGivesAGroupItsSettings : Obligations.SyncSetGivesAGroupItsSettings := by
  intro s c rest n m b w1 w0 h hc window
  refine ⟨fun hbad => exec_of_badArgs (parse := syncSetArgs) rfl h hc rfl (syncSetArgs_of_bad hbad),
    fun group members mode hn hm hb hw => ?_⟩
  intro bad base off set
  let a : SyncSettings := { group := group, members := members, mode := mode, window := window }
  have hcode : b = mode.code := by
    rw [hb]
    cases mode <;> rfl
  have hargs : syncSetArgs [n, m, b, w1, w0] = some a := by
    rw [hcode]
    exact syncSetArgs_of_good hn hm hw
  have hset : s.setSyncGroup a = set := s.setSyncGroup_eq_requests a
  rw [exec_syncSet_of_good h hc hargs]
  refine ⟨fun hbad => ?_, fun hgood => ?_⟩
  · rw [if_pos ((s.syncSetBad_iff a).2 hbad)]
  · rw [if_neg (mt (s.syncSetBad_iff a).1 hgood)]
    clear_value set
    subst hset
    refine ⟨((s.setSyncGroup a).tellWatches s).taken c rest 0 [], rfl, fun p => ?_, ?_⟩
    · exact (State.taken_port _ c rest 0 [] p).trans (s.syncSet_port a p)
    · exact State.tellWatches_taken (s.setSyncGroup a) s c rest s.ports

end Sys2Proof.Machine

/-! THEOREMS. The commands that read (R33, R128, R158, R169, R176, R185, R186). -/

namespace Sys2Proof.Machine

/-! ### The bytes of an entry -/

theorem toList_eq_map_allPorts {α : Type} (v : Vector α 4) : v.toList = allPorts.map fun p => v[p] := by
  obtain ⟨⟨l⟩, h⟩ := v
  match l, h with
  | [_, _, _, _], _ => rfl

theorem encodeWindows_eq (v : Vector (Option Window) 4) :
    encodeWindows v = v.toList.flatMap fun w => w.elim [] Window.encode := by
  rw [toList_eq_map_allPorts, List.flatMap_map]
  rfl

/-! ### The time left of a deadline -/

/-- R185: rounded up to whole milliseconds, and 0 without a deadline. -/
theorem Transaction.deadlineMillis_of_opened (kind : RequestKind) (stream : Nat) (deadline : Option Nat)
    (parts : List PortRecord) (data : Option (List Byte)) :
    Transaction.deadlineMillis
        { kind := kind, stream := stream, state := .opened, deadline := deadline, parts := parts
          data := data }
      = deadline.elim 0 fun micros => (micros + 999) / 1000 := by
  cases deadline with
  | none => simp [Transaction.deadlineMillis, Config.microsPerMilli]
  | some micros => rfl

/-! ### Which entry and which block are named -/

theorem readEntryArgs_of_lt {n b : Byte} (h : n.toNat < 31) :
    readEntryArgs [n, b] = (bankArg b).map fun active => (⟨n.toNat, h⟩, active) := by
  simp only [readEntryArgs, streamArg_of_lt h]
  cases bankArg b <;> rfl

theorem readEntryArgs_of_le {n : Byte} (h : 31 ≤ n.toNat) (b : Byte) : readEntryArgs [n, b] = none := by
  simp only [readEntryArgs, streamArg_of_le h]

theorem tagArg_of_lt {b : Byte} (h : b.toNat < 16) : tagArg b = some ⟨b.toNat, h⟩ := dif_pos h

theorem tagArg_of_not_lt {b : Byte} (h : ¬ b.toNat < 16) : tagArg b = none := dif_neg h

/-- R185: the blocks by kind and number. -/
theorem counterBlockArgs_pair (n b : Byte) : counterBlockArgs [n, b]
    = if n = 1 ∧ b = 0 then some .upstream
      else if n = 2 then (streamArg b).map .stream
      else if n = 3 ∧ b = 0 then some .refusals
      else if n = 4 then (portArg b).map .port
      else if n = 5 ∧ b = 0 then some .ret
      else if n = 6 ∧ b = 0 then some .sync
      else none := by
  by_cases h1 : n = 1
  · simp [h1, counterBlockArgs]
  by_cases h2 : n = 2
  · simp [h2, counterBlockArgs]
  by_cases h3 : n = 3
  · simp [h3, counterBlockArgs]
  by_cases h4 : n = 4
  · simp [h4, counterBlockArgs]
  by_cases h5 : n = 5
  · simp [h5, counterBlockArgs]
  by_cases h6 : n = 6
  · simp [h6, counterBlockArgs]
  simp only [h1, h2, h3, h4, h5, h6, false_and, if_false, counterBlockArgs]
  split
  next h => exact absurd (BitVec.eq_of_toNat_eq h) h1
  next h => exact absurd (BitVec.eq_of_toNat_eq h) h2
  next h => exact absurd (BitVec.eq_of_toNat_eq h) h3
  next h => exact absurd (BitVec.eq_of_toNat_eq h) h4
  next h => exact absurd (BitVec.eq_of_toNat_eq h) h5
  next h => exact absurd (BitVec.eq_of_toNat_eq h) h6
  next => rfl

theorem State.countsOf_streamArg (s : State) (b : Byte) :
    ((streamArg b).map CounterBlock.stream).map s.countsOf
      = (s.streamCounts b.toNat).map StreamCounts.toList := by
  by_cases h : b.toNat < 31
  · rw [streamArg_of_lt h, State.streamCounts, Vector.getElem?_eq_getElem h]
    rfl
  · rw [streamArg_of_le (Nat.not_lt.1 h), State.streamCounts, Vector.getElem?_eq_none (Nat.not_lt.1 h)]
    rfl

theorem State.countsOf_portArg (s : State) (b : Byte) :
    ((portArg b).map CounterBlock.port).map s.countsOf
      = (s.ports[b.toNat]?).map fun x => x.counts.toList := by
  by_cases h : b.toNat < 4
  · rw [portArg_of_eq (p := ⟨b.toNat, h⟩) rfl, Vector.getElem?_eq_getElem h]
    rfl
  · rw [portArg_of_le (Nat.not_lt.1 h), Vector.getElem?_eq_none (Nat.not_lt.1 h)]
    rfl

/-- Settles O42: each row judges its arguments and answers the bytes of what they name. -/
theorem readsChangeNothing : Obligations.ReadsChangeNothing := by
  intro s c rest n b h two four entryBytes portBytes groupBytes partBytes tagBytes portCounts syncCounts u
    counts
  have hentry (e : StreamEntry) : e.encode = entryBytes e := by
    cases e with
    | off => rfl
    | on members out fields =>
      cases fields with
      | pixel size windows =>
        simp only [StreamEntry.encode, encodeWindows_eq, entryBytes]
        refine congrArg _ (congrArg (fun f => windows.toList.flatMap f) (funext fun w => ?_))
        cases w <;> rfl
      | command size limit pairs => rfl
  have hport (x : Port) : x.readResult = portBytes x := by
    obtain ⟨phase, _, _, _, _, _, _, _, _, limit, _, _, _, _, _⟩ := x
    obtain (_ | _ | _) | _ | _ | _ | _ | _ | _ := phase <;> cases limit <;> rfl
  have hgroup (x : SyncGroup) : x.readResult = groupBytes x := by
    obtain ⟨_, mode, _, _, timer, _, _, _, _⟩ := x
    cases mode <;> cases timer <;> rfl
  have hpart : PortRecord.readBytes = partBytes := by
    funext q
    simp only [PortRecord.readBytes, q.flags_eq]
    obtain ⟨_, state, _, _⟩ := q
    obtain _ | _ | o := state
    · rfl
    · rfl
    · cases o <;> rfl
  have htag (r : Option Transaction) : tagResult r = tagBytes r := by
    cases r with
    | none => rfl
    | some x =>
      obtain ⟨kind, _, state, deadline, _, data⟩ := x
      simp only [tagBytes, ← hpart]
      cases state with
      | done => cases kind <;> cases data <;> rfl
      | opened =>
        simp only [tagResult, Option.elim_some, Transaction.readResult, Transaction.deadlineMillis_of_opened]
        cases kind <;> cases deadline <;> cases data <;> rfl
  have hcounts : counts = (counterBlockArgs [n, b]).map s.countsOf := by
    simp only [counterBlockArgs_pair, apply_ite (Option.map s.countsOf), s.countsOf_streamArg,
      s.countsOf_portArg, Option.map_some, Option.map_none]
    rfl
  refine ⟨fun hc => ?entry, fun hc => ?port, fun hc => ?group, fun hc => ?tag, fun hc => ?counters⟩
  case entry =>
    split
    next hn =>
      have hrow {active : Bool} (hbank : bankArg b = some active) : exec .readEntry s
          = .next (s.taken c rest 0 (entryBytes (s.table.read ⟨n.toNat, hn⟩ active))) := by
        rw [← hentry]
        exact exec_of_args (i := .readEntry) (parse := readEntryArgs) rfl h hc rfl
          ((readEntryArgs_of_lt hn).trans (by rw [hbank]; rfl))
      split
      next h0 =>
        exact hrow (active := true) (by rw [h0]; rfl)
      next h0 =>
        split
        next h1 => exact hrow (active := false) (by rw [h1]; rfl)
        next h1 =>
          have hbank : bankArg b = none := by rw [bankArg, if_neg h0, if_neg h1]
          exact exec_of_badArgs (parse := readEntryArgs) rfl h hc rfl
            ((readEntryArgs_of_lt hn).trans (by rw [hbank]; rfl))
    next hn =>
      exact exec_of_badArgs (parse := readEntryArgs) rfl h hc rfl
        (readEntryArgs_of_le (Nat.not_lt.1 hn) b)
  case port =>
    split
    next hn =>
      rw [← hport]
      exact exec_of_args (i := .portRead) (parse := onePort) rfl h hc rfl (portArg_of_eq (p := ⟨n.toNat, hn⟩) rfl)
    next hn => exact exec_of_badArgs (parse := onePort) rfl h hc rfl (portArg_of_le (Nat.not_lt.1 hn))
  case group =>
    split
    next hn =>
      rw [← hgroup]
      exact exec_of_args (i := .syncRead) (parse := oneGroup) rfl h hc rfl (groupArg_of_eq (g := ⟨n.toNat, hn⟩) rfl)
    next hn => exact exec_of_badArgs (parse := oneGroup) rfl h hc rfl (groupArg_of_le (Nat.not_lt.1 hn))
  case tag =>
    split
    next hn =>
      rw [← htag]
      exact exec_of_args (i := .tagRead) (parse := oneTag) rfl h hc rfl (tagArg_of_lt hn)
    next hn => exact exec_of_badArgs (parse := oneTag) rfl h hc rfl (tagArg_of_not_lt hn)
  case counters =>
    rw [hcounts]
    cases hargs : counterBlockArgs [n, b] with
    | none => exact exec_of_badArgs (parse := counterBlockArgs) rfl h hc rfl hargs
    | some block => exact exec_of_args (i := .countersRead) (parse := counterBlockArgs) rfl h hc rfl hargs

end Sys2Proof.Machine

/-! THEOREMS. The header as composed and as judged (R11, R181, R182). -/

namespace Sys2Proof.Machine

/-! ### Bytes as numbers -/

theorem toNat_byte (n : Nat) : (byte n).toNat = n % 256 := BitVec.toNat_ofNat n 8

theorem toNat_byte_of_lt {n : Nat} (h : n < 256) : (byte n).toNat = n := by
  rw [toNat_byte, Nat.mod_eq_of_lt h]

theorem pair_bytes2_of_lt {n : Nat} (h : n < 65536) : pair (byte (n / 256)) (byte n) = n := by
  simp only [pair, toNat_byte]
  omega

theorem flagBit_le (b : Bool) : flagBit b ≤ 1 := by
  cases b <;> decide

/-! ### The judgement of ten bytes -/

theorem judgeHeader_ten (b0 b1 b2 b3 b4 b5 b6 b7 b8 b9 : Byte) :
    judgeHeader [b0, b1, b2, b3, b4, b5, b6, b7, b8, b9]
      = if crc8 [b0, b1, b2, b3, b4, b5, b6, b7, b8] = b9
          ∧ (headerFields b0 b1 b2 b3 b4 b5 b6 b7 b8).length ≤ 4096 ∧ b1.toNat % 4 = 0
        then some (headerFields b0 b1 b2 b3 b4 b5 b6 b7 b8) else none := rfl

section
variable {kind : Byte} {stream : Nat} {ackRequest : Bool} {tag : Tag} {line column length : Nat}

/-- R182: the fields stand where they were composed. -/
theorem headerFields_composed (hs : stream < 32) (hl : line < 4096) (hc : column < 8192)
    (hn : length < 2 ^ 27) :
    headerFields kind (byte (stream * 8 + flagBit ackRequest * 4)) (byte (tag * 16 + line / 256))
        (byte line) (byte (column / 32)) (byte (column % 32 * 8 + length / 16777216))
        (byte (length / 65536)) (byte (length / 256)) (byte length)
      = { kind := kind, stream := stream, ackRequest := ackRequest, tag := tag, line := line
          column := column, length := length } := by
  have hflag := flagBit_le ackRequest
  have htag := tag.isLt
  have hack : ((byte (stream * 8 + flagBit ackRequest * 4)).toNat / 4 % 2 == 1) = ackRequest := by
    rw [toNat_byte_of_lt (by omega)]
    have hodd : (stream * 8 + flagBit ackRequest * 4) / 4 % 2 = flagBit ackRequest := by omega
    rw [hodd]
    cases ackRequest <;> rfl
  have htagField : Fin.ofNat 16 ((byte (tag * 16 + line / 256)).toNat / 16) = tag := by
    refine Fin.ext ?_
    rw [toNat_byte_of_lt (by omega), Fin.val_ofNat]
    omega
  simp only [headerFields, hack, htagField, Header.mk.injEq, true_and]
  simp only [pair, toNat_byte]
  refine ⟨by omega, by omega, by omega, by omega⟩

/-- R182: the spare bits of the second byte are clear. -/
theorem composed_spare_clear (stream : Nat) (ackRequest : Bool) :
    (byte (stream * 8 + flagBit ackRequest * 4)).toNat % 4 = 0 := by
  rw [toNat_byte]
  omega

/-- A bit set among the spare bits stays set, whatever else the byte holds. -/
theorem or_spare_ne_zero {b : Byte} (h : 1 ≤ b.toNat ∧ b.toNat < 4) (x : Byte) :
    (x ||| b).toNat % 4 ≠ 0 := by
  rw [BitVec.toNat_or, show 4 = 2 ^ 2 from rfl, Nat.or_mod_two_pow]
  intro hzero
  have hb := (Nat.or_eq_zero_iff.1 hzero).2
  omega

end

/-- Settles O49: check, Length and spare bits are judged one by one. -/
theorem headersAreReadAsTheyAreComposed : Obligations.HeadersAreReadAsTheyAreComposed := by
  intro kind stream ackRequest tag line column length b hs hl hc hn header
  have hfields := headerFields_composed (kind := kind) (ackRequest := ackRequest) (tag := tag) hs hl hc hn
  refine ⟨?composed, fun hb => ?check, fun hb => ?spare⟩
  case composed =>
    refine (judgeHeader_ten _ _ _ _ _ _ _ _ _ _).trans ?_
    rw [hfields]
    refine if_congr ?_ rfl rfl
    exact ⟨fun ⟨_, hlen, _⟩ => hlen, fun hlen => ⟨rfl, hlen, composed_spare_clear stream ackRequest⟩⟩
  case check =>
    refine (judgeHeader_ten _ _ _ _ _ _ _ _ _ _).trans (if_neg fun ⟨hcrc, _⟩ => ?_)
    exact hb hcrc.symm
  case spare =>
    intro spare
    refine (judgeHeader_ten _ _ _ _ _ _ _ _ _ _).trans (if_neg fun ⟨_, _, hclear⟩ => ?_)
    exact or_spare_ne_zero hb _ hclear

end Sys2Proof.Machine

/-! THEOREMS. Stream entries as encoded and as judged (R29, R186). -/

namespace Sys2Proof.Machine

/-! ### Rows of equal length in a list of bytes -/

section
variable {g : PortId → List Byte}

theorem length_flatMap_of_eight {l : List PortId} (hg : ∀ q ∈ l, (g q).length = 8) :
    (l.flatMap g).length = 8 * l.length := by
  induction l with
  | nil => rfl
  | cons q l ih =>
    rw [List.flatMap_cons, List.length_append, hg q List.mem_cons_self,
      ih fun r hr => hg r (List.mem_cons_of_mem _ hr), List.length_cons]
    omega

/-- In an ascending list of ports, the row of a port stands behind those of the ports below it. -/
theorem row_of_port {l : List PortId} (hl : l.Pairwise (· < ·)) (hg : ∀ q ∈ l, (g q).length = 8)
    {p : PortId} (hp : p ∈ l) :
    ((l.flatMap g).drop (8 * l.countP fun q => decide (q < p))).take 8 = g p := by
  induction l with
  | nil => exact absurd hp List.not_mem_nil
  | cons q l ih =>
    rw [List.pairwise_cons] at hl
    obtain ⟨hq, hrest⟩ := hl
    have hhead : (g q).length = 8 := hg q List.mem_cons_self
    rw [List.flatMap_cons]
    by_cases hpq : p = q
    · subst hpq
      have hnone : ((p :: l).countP fun q => decide (q < p)) = 0 := by
        simp only [List.countP_eq_zero, List.mem_cons, decide_eq_true_eq]
        rintro r (rfl | hr)
        · exact lt_irrefl r
        · exact lt_asymm (hq r hr)
      rw [hnone]
      exact List.take_left' hhead
    · have hmem : p ∈ l := (List.mem_cons.1 hp).resolve_left hpq
      have hcount : ((q :: l).countP fun q => decide (q < p)) = (l.countP fun q => decide (q < p)) + 1 :=
        List.countP_cons_of_pos (by simpa using hq p hmem)
      rw [hcount, Nat.mul_add, Nat.add_comm, ← List.drop_drop, List.drop_left' hhead]
      exact ih hrest (fun r hr => hg r (List.mem_cons_of_mem _ hr)) hmem

/-- What stands for no port need not be looked at. -/
theorem flatMap_filter_of_nil {f : PortId → Bool} {l : List PortId} (h : ∀ q ∈ l, f q = false → g q = []) :
    (l.filter f).flatMap g = l.flatMap g := by
  induction l with
  | nil => rfl
  | cons q l ih =>
    have hrest := ih fun r hr => h r (List.mem_cons_of_mem _ hr)
    cases hf : f q with
    | true => rw [List.filter_cons_of_pos hf, List.flatMap_cons, List.flatMap_cons, hrest]
    | false =>
      rw [List.filter_cons_of_neg (by simp [hf]), List.flatMap_cons, h q List.mem_cons_self hf, hrest]
      rfl

end

theorem forFour_eta {α : Type} (v : Vector α 4) : forFour (fun p => v[p]) = v := by
  obtain ⟨⟨l⟩, h⟩ := v
  match l, h with
  | [_, _, _, _], _ => rfl

/-! ### Windows (R27, R29) -/

theorem Window.length_encode (w : Window) : w.encode.length = 8 := rfl

theorem Window.valid_iff (w : Window) : w.valid = true ↔ w.firstColumn ≤ 8191 ∧ 1 ≤ w.width
    ∧ w.width ≤ 4096 ∧ w.firstLine ≤ 4095 ∧ 1 ≤ w.height ∧ w.height ≤ 4096
    ∧ w.firstColumn + w.width ≤ 8192 ∧ w.firstLine + w.height ≤ 4096 := by
  rw [Window.valid, decide_eq_true_eq]

theorem readWindow_encode {w : Window} (h : w.valid = true) : readWindow w.encode = some w := by
  obtain ⟨hcolumn, _, hwidth, hline, _, hheight, _⟩ := w.valid_iff.1 h
  have hread : readWindow w.encode = some
      { firstColumn := pair (byte (w.firstColumn / 256)) (byte w.firstColumn)
        width := pair (byte (w.width / 256)) (byte w.width)
        firstLine := pair (byte (w.firstLine / 256)) (byte w.firstLine)
        height := pair (byte (w.height / 256)) (byte w.height) } := rfl
  rw [hread, pair_bytes2_of_lt (by omega), pair_bytes2_of_lt (by omega), pair_bytes2_of_lt (by omega),
    pair_bytes2_of_lt (by omega)]

/-- R29 condition 4: the members, and no other ports, have a window, and each window is valid. -/
def WindowsFit (members : PortSet) (windows : Vector (Option Window) 4) : Prop :=
  ∀ p : PortId, windows[p].isSome = PortSet.has members p ∧ ∀ w, windows[p] = some w → w.valid = true

theorem EntryClass.valid_pixel_iff (members : PortSet) (size : Nat) (windows : Vector (Option Window) 4) :
    (EntryClass.pixel size windows).valid members = true
      ↔ (size = 2 ∨ size = 3 ∨ size = 4) ∧ WindowsFit members windows := by
  simp only [EntryClass.valid, Bool.and_eq_true, Bool.or_eq_true, beq_iff_eq, List.all_eq_true,
    mem_allPorts, true_implies, or_assoc]
  refine and_congr Iff.rfl (forall_congr' fun p => ?_)
  cases windows[p] with
  | none => simp only [Option.isSome_none, Bool.false_eq, Bool.not_eq_true', reduceCtorEq, false_implies,
      implies_true, and_true]
  | some w => simp only [Option.isSome_some, Bool.true_eq, Bool.and_eq_true, Option.some.injEq, forall_eq']

/-- The bytes of port `p` among the windows. -/
def windowBytes (windows : Vector (Option Window) 4) (p : PortId) : List Byte :=
  windows[p].elim [] Window.encode

theorem windowBytes_of_some {windows : Vector (Option Window) 4} {p : PortId} {w : Window}
    (h : windows[p] = some w) : windowBytes windows p = w.encode := by
  simp only [windowBytes, h, Option.elim_some]

theorem windowBytes_of_none {windows : Vector (Option Window) 4} {p : PortId} (h : windows[p] = none) :
    windowBytes windows p = [] := by
  simp only [windowBytes, h, Option.elim_none]

theorem PortSet.toList_pairwise (members : PortSet) : (PortSet.toList members).Pairwise (· < ·) :=
  List.Pairwise.filter _ (by decide)

section
variable {members : PortSet} {windows : Vector (Option Window) 4} (h : WindowsFit members windows)
include h

theorem encodeWindows_of_fit :
    encodeWindows windows = (PortSet.toList members).flatMap (windowBytes windows) := by
  refine (flatMap_filter_of_nil fun q _ hq => ?_).symm
  have hnone : windows[q] = none := by
    rw [← Option.not_isSome_iff_eq_none, (h q).1, hq]
    simp
  exact windowBytes_of_none hnone

theorem length_windowBytes_of_member : ∀ q ∈ PortSet.toList members, (windowBytes windows q).length = 8 := by
  intro q hq
  obtain ⟨w, hw⟩ := Option.isSome_iff_exists.1 ((h q).1.trans ((PortSet.mem_toList members q).1 hq))
  rw [windowBytes_of_some hw, Window.length_encode]

theorem windowAt_encodeWindows (p : PortId) : windowAt members (encodeWindows windows) p = windows[p] := by
  unfold windowAt
  split
  next hp =>
    obtain ⟨w, hw⟩ := Option.isSome_iff_exists.1 ((h p).1.trans hp)
    have hrow := row_of_port (PortSet.toList_pairwise members) (length_windowBytes_of_member h)
      ((PortSet.mem_toList members p).2 hp)
    rw [encodeWindows_of_fit h, hw, ← readWindow_encode ((h p).2 w hw), ← windowBytes_of_some hw]
    exact congrArg readWindow hrow
  next hp =>
    symm
    rw [← Option.not_isSome_iff_eq_none, (h p).1]
    exact hp

theorem length_encodeWindows : (encodeWindows windows).length = 8 * memberCount members := by
  rw [encodeWindows_of_fit h, length_flatMap_of_eight (length_windowBytes_of_member h)]
  rfl

end

/-! ### Split pairs (R28) -/

theorem readPairs_encode (pairs : List SplitPair) : readPairs (pairs.flatMap SplitPair.encode) = pairs := by
  induction pairs with
  | nil => rfl
  | cons x xs ih =>
    rw [List.flatMap_cons]
    exact congrArg (x :: ·) ih

theorem length_encodePairs (pairs : List SplitPair) :
    (pairs.flatMap SplitPair.encode).length = 2 * pairs.length := by
  induction pairs with
  | nil => rfl
  | cons x xs ih =>
    rw [List.flatMap_cons, List.length_append, ih, List.length_cons]
    exact (Nat.add_comm _ _).trans rfl

/-! ### The entry -/

theorem memberCount_le (members : PortSet) : memberCount members ≤ 4 :=
  List.length_filter_le _ _

theorem portSetOf_byte (members : PortSet) : portSetOf (byte members.toNat) = members := by
  have hlt : members.toNat < 2 ^ 4 := members.isLt
  exact portSetOf_of_toNat (toNat_byte_of_lt (by omega))

theorem highBitsClear_byte (members : PortSet) : highBitsClear (byte members.toNat) = true := by
  have hlt : members.toNat < 2 ^ 4 := members.isLt
  rw [highBitsClear_iff, toNat_byte_of_lt (by omega)]
  exact hlt

theorem judgeEntry_cons_one (b1 members out : Byte) (bytes : List Byte) :
    judgeEntry (1 :: b1 :: members :: out :: bytes)
      = (readClass (1 :: b1 :: members :: out :: bytes)).bind fun fields =>
        if highBitsClear members && (StreamEntry.on (portSetOf members) out.toNat fields).valid then
          some (.on (portSetOf members) out.toNat fields) else none := by
  unfold judgeEntry
  generalize readClass (1 :: b1 :: members :: out :: bytes) = read
  cases read <;> rfl

/-- An ON entry is judged by its class fields, which must be valid. -/
theorem judgeEntry_on {b1 members out : Byte} {bytes : List Byte} {fields : EntryClass}
    (hread : readClass (1 :: b1 :: members :: out :: bytes) = some fields)
    (hclear : highBitsClear members = true)
    (hvalid : (StreamEntry.on (portSetOf members) out.toNat fields).valid = true) :
    judgeEntry (1 :: b1 :: members :: out :: bytes)
      = some (.on (portSetOf members) out.toNat fields) := by
  rw [judgeEntry_cons_one, hread, Option.bind_some, hclear, hvalid]
  rfl

/-- What an ON entry's encoding must bring along to be read back: its length, its class fields, and at most 62
bytes. -/
theorem reads_of_readClass {members : PortSet} {out : Nat} {fields : EntryClass} {b1 : Byte}
    {bytes : List Byte} (hvalid : (StreamEntry.on members out fields).valid = true)
    (hlayout : layoutLength (1 :: b1 :: byte members.toNat :: byte out :: bytes) = bytes.length + 4)
    (hread : readClass (1 :: b1 :: byte members.toNat :: byte out :: bytes) = some fields)
    (hlen : bytes.length + 4 ≤ 62) :
    let entry := 1 :: b1 :: byte members.toNat :: byte out :: bytes
    entryLengthOk entry = true ∧ judgeEntry entry = some (.on members out fields)
      ∧ entry.length ≤ 62 := by
  intro entry
  have hout : (byte out).toNat = out := by
    simp only [StreamEntry.valid, Bool.and_eq_true, decide_eq_true_eq] at hvalid
    exact toNat_byte_of_lt (by omega)
  refine ⟨?_, ?_, hlen⟩
  · rw [entryLengthOk, hlayout]
    simp [entry]
  · refine (judgeEntry_on hread (highBitsClear_byte members) ?_).trans ?_
    · rw [portSetOf_byte, hout]
      exact hvalid
    · rw [portSetOf_byte, hout]

theorem layoutLength_pixel (members : Byte) (bytes : List Byte) :
    layoutLength (1 :: 1 :: members :: bytes) = 5 + 8 * memberCount (portSetOf members) := rfl

theorem layoutLength_command (members out s1 s0 l1 l0 count : Byte) (bytes : List Byte) :
    layoutLength (1 :: 2 :: members :: out :: s1 :: s0 :: l1 :: l0 :: count :: bytes)
      = 9 + 2 * count.toNat := rfl

theorem readClass_pixel (members out size : Byte) (windows : List Byte) :
    readClass (1 :: 1 :: members :: out :: size :: windows)
      = some (.pixel size.toNat (forFour fun p => windowAt (portSetOf members) windows p)) := rfl

theorem readClass_command (members out s1 s0 l1 l0 count : Byte) (pairs : List Byte) :
    readClass (1 :: 2 :: members :: out :: s1 :: s0 :: l1 :: l0 :: count :: pairs)
      = some (.command (pair s1 s0) (pair l1 l0) (readPairs pairs)) := rfl

/-- Settles O50: class by class, the layout gives back every field that R29 keeps in range. -/
theorem entriesAreReadAsTheyAreEncoded : Obligations.EntriesAreReadAsTheyAreEncoded := by
  intro e hvalid
  cases e with
  | off => exact ⟨rfl, rfl, by decide⟩
  | on members out fields =>
    have hfields : fields.valid members = true := by
      rw [StreamEntry.valid, Bool.and_eq_true] at hvalid
      exact hvalid.2
    cases fields with
    | pixel size windows =>
      obtain ⟨hsize, hfit⟩ := (EntryClass.valid_pixel_iff members size windows).1 hfields
      have hcount := memberCount_le members
      have hlen := length_encodeWindows hfit
      refine reads_of_readClass (bytes := byte size :: encodeWindows windows) hvalid ?_ ?_ ?_
      · rw [layoutLength_pixel, portSetOf_byte, List.length_cons, hlen]
        omega
      · rw [readClass_pixel, portSetOf_byte, toNat_byte_of_lt (by omega),
          funext (windowAt_encodeWindows hfit), forFour_eta]
      · rw [List.length_cons, hlen]
        omega
    | command size limit pairs =>
      simp only [EntryClass.valid, Bool.and_eq_true, decide_eq_true_eq] at hfields
      obtain ⟨⟨_, hsize, _, hlimit, hpairs⟩, _⟩ := hfields
      have hlen := length_encodePairs pairs
      refine reads_of_readClass (bytes := byte (size / 256) :: byte size :: byte (limit / 256) :: byte limit
        :: byte pairs.length :: pairs.flatMap SplitPair.encode) hvalid ?_ ?_ ?_
      · rw [layoutLength_command, toNat_byte_of_lt (by omega)]
        simp only [List.length_cons, hlen]
        omega
      · rw [readClass_command, pair_bytes2_of_lt (by omega), pair_bytes2_of_lt (by omega), readPairs_encode]
      · simp only [List.length_cons, hlen]
        omega

end Sys2Proof.Machine

/-! THEOREMS. A row of one port leaves the other ports and their port records alone (R131). -/

namespace Sys2Proof.Machine

/-! ### States that agree on one port -/

/-- The port records of port `q`. -/
def Transaction.partsOf (r : Transaction) (q : PortId) : List PortRecord :=
  r.parts.filter fun y => y.port == q

/-- Port `q` is as it was, and every record is still there with the port records of `q` as they were. -/
def State.Spares (q : PortId) (s t : State) : Prop :=
  t.port q = s.port q ∧ ∀ k r, s.record k = some r → ∃ d, t.record k = some d ∧ d.partsOf q = r.partsOf q

theorem State.Spares.of_same {q : PortId} {s t : State} (hp : t.port q = s.port q)
    (hr : ∀ k, t.record k = s.record k) : s.Spares q t :=
  ⟨hp, fun k r h => ⟨r, (hr k).trans h, rfl⟩⟩

theorem State.Spares.refl (q : PortId) (s : State) : s.Spares q s := .of_same rfl fun _ => rfl

theorem State.Spares.trans {q : PortId} {s t u : State} (h : s.Spares q t) (g : t.Spares q u) :
    s.Spares q u := by
  obtain ⟨hport, hrecord⟩ := h
  obtain ⟨gport, grecord⟩ := g
  refine ⟨gport.trans hport, fun k r hr => ?_⟩
  obtain ⟨d, hd, hparts⟩ := hrecord k r hr
  obtain ⟨e, he, heparts⟩ := grecord k d hd
  exact ⟨e, he, heparts.trans hparts⟩

/-! ### Writes of another port's part -/

section
variable {p q : PortId} (hpq : p ≠ q) (s : State)
include hpq

theorem State.spares_setPort (x : Port) : s.Spares q (s.setPort p x) :=
  .of_same (s.setPort_port_ne x hpq.symm) fun _ => rfl

theorem State.spares_judgePort : s.Spares q (s.judgePort p) := s.spares_setPort hpq _

omit hpq in
theorem State.spares_setRecord {s : State} {k : Tag} {r d : Transaction} (hr : s.record k = some r)
    (hd : d.partsOf q = r.partsOf q) : s.Spares q (s.setRecord k (some d)) := by
  refine ⟨rfl, fun j x hj => ?_⟩
  rw [State.setRecord_record]
  split
  next hjk =>
    subst hjk
    cases hr.symm.trans hj
    exact ⟨d, rfl, hd⟩
  next => exact ⟨x, hj, rfl⟩

omit hpq in
theorem State.spares_storeOrComplete {s : State} {k : Tag} {r d : Transaction} (hr : s.record k = some r)
    (hd : d.partsOf q = r.partsOf q) : s.Spares q (s.storeOrComplete k d) := by
  rcases s.storeOrComplete_cases k d with ⟨_, h⟩ | ⟨_, h⟩ <;> rw [h]
  · have hclosed : d.closed.partsOf q = r.partsOf q := hd
    exact (State.spares_setRecord hr hclosed).trans (.of_same rfl fun _ => rfl)
  · exact State.spares_setRecord hr hd

omit hpq in
theorem State.spares_onOpenRecord {s : State} {k : Tag} {f : Transaction → State}
    (hf : ∀ r, s.record k = some r → s.Spares q (f r)) : s.Spares q (s.onOpenRecord k f) := by
  rcases s.onOpenRecord_cases k f with ⟨r, hr, _, h⟩ | ⟨_, h⟩ <;> rw [h]
  · exact hf r hr
  · exact .refl q s

theorem Transaction.settle_partsOf (r : Transaction) (o : PartOutcome) (b : Bool) (w : Option Half) :
    (r.settle p o b w).partsOf q = r.partsOf q := r.settle_other hpq o b w

theorem Transaction.await_partsOf (r : Transaction) : (r.await p).partsOf q = r.partsOf q := by
  simp only [Transaction.partsOf, Transaction.await]
  induction r.parts with
  | nil => rfl
  | cons y ys ih =>
    rw [List.map_cons, List.filter_cons, List.filter_cons, ih]
    by_cases hy : y.port = p
    · have hne : (y.port == q) = false := by simp [hy, hpq]
      split <;> simp [hne]
    · have hno : ¬ (y.port = p ∧ y.state = .queued) := fun ⟨h, _⟩ => hy h
      simp only [if_neg hno]

theorem State.spares_takeNotice (n : Notice) : s.Spares q (s.takeNotice p n) :=
  State.spares_onOpenRecord fun r hr =>
    State.spares_storeOrComplete hr (r.settle_partsOf hpq n.outcome n.isPartial none)

theorem State.spares_takeResult (e : Exchange) : s.Spares q (s.takeResult p e) :=
  State.spares_onOpenRecord fun r hr =>
    State.spares_storeOrComplete hr (r.settle_partsOf hpq e.outcome false e.errorWord)

theorem State.spares_partAwaits (k : Tag) : s.Spares q (s.partAwaits k p) :=
  State.spares_onOpenRecord fun r hr => State.spares_setRecord hr (r.await_partsOf hpq)

theorem State.spares_handNotices (ns : List Notice) : s.Spares q (s.handNotices p ns) := by
  induction ns generalizing s with
  | nil => exact .refl q s
  | cons n ns ih => exact (s.spares_takeNotice hpq n).trans (ih (s.takeNotice p n))

theorem State.spares_handResult (e : Exchange) : s.Spares q (s.handResult p e) := by
  unfold State.handResult
  split
  · exact s.spares_takeResult hpq e
  · exact .refl q s

theorem State.spares_failPort (f : Port → Port) : s.Spares q (s.failPort p f) :=
  (s.spares_setPort hpq _).trans (State.spares_handNotices hpq _ _)

omit hpq in
theorem State.spares_deferredDone (b : Byte) : s.Spares q (s.deferredDone b) := by
  unfold State.deferredDone
  split
  · exact .of_same rfl fun _ => rfl
  · exact .refl q s

theorem State.spares_goDown (c : Cause) : s.Spares q (s.goDown p c) := by
  have htold : s.Spares q (s.toldDown p c) :=
    ((s.spares_setPort hpq { s.port p with phase := .down c, tx := .idle }).trans
      (.of_same rfl fun _ => rfl)).trans (.of_same (State.memberDown_port _ p q) (State.memberDown_record _ p))
  rw [State.goDown_eq]
  split
  · exact (htold.trans (State.spares_setPort hpq _ _)).trans (State.spares_deferredDone _ _)
  · exact htold

/-! ### The rows of one port -/

theorem State.spares_pieceSent : s.Spares q (s.pieceSent p) := by
  unfold State.pieceSent
  split
  · exact (s.spares_setPort hpq _).trans (State.spares_judgePort hpq _)
  · exact .refl q s

theorem State.spares_openExchange (a : PendingAnswer) : s.Spares q (s.openExchange p a) := by
  have hopened := s.spares_setPort hpq ((s.port p).openExchange a)
  unfold State.openExchange
  split
  · exact hopened.trans (State.spares_partAwaits hpq _ _)
  · exact hopened

theorem State.spares_answerPassSent : s.Spares q (s.answerPassSent p) := by
  unfold State.answerPassSent
  split
  · exact s.spares_openExchange hpq _
  · exact s.spares_setPort hpq _
  · exact .refl q s

theorem State.spares_watchPassSent : s.Spares q (s.watchPassSent p) := by
  unfold State.watchPassSent
  split
  · exact s.spares_setPort hpq _
  · exact s.spares_setPort hpq _
  · exact .refl q s

theorem State.spares_clearingDone : s.Spares q (s.clearingDone p) := by
  have hanswered (d : Destination) : s.Spares q (s.answerRestart p d) := by
    unfold State.answerRestart
    split
    · exact (s.spares_setPort hpq _).trans (State.spares_deferredDone _ _)
    · exact .refl q s
  unfold State.clearingDone
  split
  next d _ _ =>
    refine (hanswered d).trans ?_
    cases d with
    | ready => exact (State.spares_setPort hpq _ _).trans (State.spares_judgePort hpq _)
    | down c => exact State.spares_goDown hpq _ c
  next => exact .refl q s

theorem State.spares_onTileToken {act : State → State} (hact : s.Spares q (act s)) :
    s.Spares q (s.onTileToken p act) := by
  unfold State.onTileToken
  split
  · split
    · exact hact
    · exact s.spares_setPort hpq _
    · exact s.spares_setPort hpq _
  · exact .refl q s

theorem State.spares_tilePassed : s.Spares q (s.tilePassed p) := by
  unfold State.tilePassed
  split
  · exact ((s.spares_setPort hpq _).trans (State.spares_handResult hpq _ _)).trans
      (State.spares_judgePort hpq _)
  · exact .refl q s

omit hpq in
theorem State.spares_takeSync : s.Spares q (s.takeSync p) := by
  obtain ⟨_, _, h⟩ := s.takeSync_frame p
  rw [h]
  exact .of_same rfl fun _ => rfl

theorem State.spares_onTilePacket (packet : TilePacket) (f : TileVerdict → Port → Port) :
    s.Spares q (s.onTilePacket p packet f) := by
  rcases s.onTilePacket_cases p packet f with h | h <;> rw [h]
  · exact .refl q s
  · exact s.spares_setPort hpq _

theorem State.spares_whileReceiving (f : Port → Port) : s.Spares q (s.whileReceiving p f) := by
  unfold State.whileReceiving
  split
  · exact s.spares_setPort hpq _
  · exact .refl q s

theorem State.spares_tileCollided : s.Spares q (s.tileCollided p) := by
  unfold State.tileCollided
  split
  · split
    · exact s.spares_setPort hpq _
    · exact s.spares_failPort hpq _
  · exact .refl q s

theorem State.spares_answerExpired : s.Spares q (s.answerExpired p) := by
  unfold State.answerExpired
  split
  · exact s.spares_failPort hpq _
  · exact .refl q s

theorem State.spares_seizeDone : s.Spares q (s.seizeDone p) := by
  unfold State.seizeDone
  split
  · exact s.spares_setPort hpq _
  · exact .refl q s

theorem State.spares_tileTokenError (code : Byte) :
    s.Spares q (if tileMaySend code then s else s.setPort p (s.port p).takeStray) := by
  split
  · exact .refl q s
  · exact s.spares_setPort hpq _

end

/-- Settles O59: row by row. -/
theorem aRowOfOnePortLeavesTheOthersAlone : Obligations.ARowOfOnePortLeavesTheOthersAlone := by
  intro s t p q i hpq hrow hexec
  have hspares {u : State} (hu : exec i s = .next u) (h : s.Spares q u) : s.Spares q t := by
    cases hu.symm.trans hexec
    exact h
  change s.Spares q t
  obtain hi | ⟨packet, hi⟩ | ⟨cut, hi⟩ | ⟨b, hi⟩ := hrow
  · simp only [List.mem_cons, List.not_mem_nil, or_false] at hi
    obtain rfl | rfl | rfl | rfl | rfl | rfl | rfl | rfl | rfl | rfl := hi
    · exact hspares rfl (s.spares_pieceSent hpq)
    · exact hspares rfl (s.spares_answerPassSent hpq)
    · exact hspares rfl (s.spares_watchPassSent hpq)
    · exact hspares rfl (s.spares_onTileToken hpq (s.spares_tilePassed hpq))
    · exact hspares rfl (s.spares_tileCollided hpq)
    · exact hspares rfl (s.spares_answerExpired hpq)
    · exact hspares rfl (s.spares_seizeDone hpq)
    · exact hspares rfl (s.spares_clearingDone hpq)
    · exact hspares rfl (s.spares_onTileToken hpq s.spares_takeSync)
    · exact hspares rfl (s.spares_onTileToken hpq (s.spares_setPort hpq _))
  · simp only [List.mem_cons, List.not_mem_nil, or_false] at hi
    obtain rfl | rfl | rfl | rfl := hi
    all_goals exact hspares rfl (s.spares_onTilePacket hpq packet _)
  · simp only [List.mem_cons, List.not_mem_nil, or_false] at hi
    obtain rfl | rfl := hi
    all_goals exact hspares rfl (s.spares_whileReceiving hpq _)
  · simp only [List.mem_cons, List.not_mem_nil, or_false] at hi
    obtain rfl | rfl := hi
    · exact hspares rfl (s.spares_onTileToken hpq (s.spares_tileTokenError hpq b))
    · exact hspares rfl (s.spares_whileReceiving hpq _)

end Sys2Proof.Machine
